-- ==== Sys2Proof/Word.lean ====
section
/-! DEFINITION. The word types of the OPC-CHK block. Every quantity of the block is an unsigned number of a
fixed width (R8 of 00_scope.md, R207 of 46_system.md). -/

namespace Sys2Proof

/-- One byte: a command's data byte, a cell of the frame buffer. -/
abbrev Byte := BitVec 8

/-- 32 bits: an operand field, a response value, a time in milliseconds, a word of the Reading. -/
abbrev Word := BitVec 32

/-- A command word `op ‖ arg`: `op` in bits 39:32, `arg` in bits 31:0 (R80 of 30_encoding.md). -/
abbrev CommandWord := BitVec 40

end Sys2Proof
end

