-- ==== Sys2Proof/Machine/Operands.lean ====
section
/-! DEFINITION. The five operand formats of a command's `arg` (R81 of 30_encoding.md): which bits must be zero,
how each field is read, and how it is laid out. -/

namespace Sys2Proof.Machine

/-- The operand formats of R81. -/
inductive Format where
  /-- no operand -/
  | N
  /-- one byte in `arg[7:0]` -/
  | B
  /-- a 32-bit time in `arg[31:0]` -/
  | T
  /-- `peek` in `arg[7:0]`, `avail` in `arg[23:8]` -/
  | S
  /-- an index in `arg[3:0]` -/
  | I
  deriving DecidableEq, Repr

/-- The bits of `arg` that the format marks "zero". -/
def Format.zeroMask : Format → Word
  | .N => 0xFFFFFFFF#32
  | .B => 0xFFFFFF00#32
  | .T => 0x00000000#32
  | .S => 0xFF000000#32
  | .I => 0xFFFFFFF0#32

/-- Every bit the format marks "zero" is 0. -/
def Format.zeroBitsClear (f : Format) (arg : Word) : Bool :=
  arg &&& f.zeroMask == 0#32

/-- `b = arg[7:0]`, also `peek` of format S. -/
def argByte (arg : Word) : Byte := arg.extractLsb' 0 8

/-- `avail = arg[23:8]`. -/
def argAvail (arg : Word) : BitVec 16 := arg.extractLsb' 8 16

/-- `i = arg[3:0]`. -/
def argIndex (arg : Word) : BitVec 4 := arg.extractLsb' 0 4

/-- `arg` of format B. -/
def byteArg (b : Byte) : Word := b.setWidth 32

/-- `arg` of format S. -/
def startArg (avail : BitVec 16) (peek : Byte) : Word := (0#8 ++ avail) ++ peek

/-- `arg` of format I. -/
def indexArg (i : BitVec 4) : Word := i.setWidth 32

/-- The `avail` operand for a Channel that holds `n` bytes: the host presents at most 65,535 (R82). -/
def availOf (n : Nat) : BitVec 16 := BitVec.ofNat 16 (min n 65535)

end Sys2Proof.Machine
end

