-- ==== Sys2Proof/Syntax.lean ====
section
/-! DEFINITION. The commands of the block, one constructor for each row of the opcode map (R83 of
30_encoding.md), and the names of the faults a command word or a command can raise (R213 of 60_exceptions.md). -/

namespace Sys2Proof

/-- The 23 commands, with their operands as the bit fields of R81 spell them (R82: none is sign-extended,
scaled or shifted). -/
inductive Instr where
  /-- 0x00, format N -/
  | sysStatus
  /-- 0x10, format N -/
  | s8Init
  /-- 0x11, format B -/
  | s8Byte (b : Byte)
  /-- 0x12, format N -/
  | s8Read
  /-- 0x13, format B; the operand is the transmitted checksum byte -/
  | s8Check (c : Byte)
  /-- 0x20, format N -/
  | c16Init
  /-- 0x21, format B -/
  | c16Byte (b : Byte)
  /-- 0x22, format N -/
  | c16Read
  /-- 0x30, format N -/
  | c8Init
  /-- 0x31, format B -/
  | c8Byte (b : Byte)
  /-- 0x32, format N -/
  | c8Read
  /-- 0x33, format B; the operand is the transmitted CRC byte -/
  | c8Check (c : Byte)
  /-- 0x40, format S: the Channel's byte count and its next unread byte -/
  | dfStart (avail : BitVec 16) (peek : Byte)
  /-- 0x41, format B -/
  | dfByte (b : Byte)
  /-- 0x42, format N -/
  | dfEmpty
  /-- 0x43, format I; legal indices are 0 to 9 -/
  | dfRead (i : BitVec 4)
  /-- 0x50, format T -/
  | htInit (now : Word)
  /-- 0x51, format T -/
  | htGood (now : Word)
  /-- 0x52, format T -/
  | htBad (now : Word)
  /-- 0x53, format T; the operand is the threshold -/
  | htSetthr (thr : Word)
  /-- 0x54, format N -/
  | htQgood
  /-- 0x55, format N -/
  | htQflag
  /-- 0x60, format T -/
  | rcTick (now : Word)
  deriving DecidableEq, Repr

/-- The causes of a fault (R213). A fault does not stop the block: it is answered and the block goes on (R212). -/
inductive FaultCode where
  /-- the opcode is none of the 23 -/
  | illOpcode
  /-- a bit the format requires to be zero is 1, or the index of `DF_READ` is above 9 -/
  | illOperand
  /-- `DF_START` during an attempt, `DF_BYTE` or `DF_EMPTY` outside one -/
  | dfSequence
  /-- a health command before `HT_INIT` -/
  | htUninit
  /-- `DF_READ` before the first success -/
  | noReading
  deriving DecidableEq, Repr

end Sys2Proof
end

