-- ==== Sys2Proof/WellFormed.lean ====
section
/-! DEFINITION. Which terms of `Instr` a command word can spell. The field widths of the constructors leave one
check: the word index of `DF_READ` is 0 to 9 (R81, R85 case 2 of 30_encoding.md). -/

namespace Sys2Proof

/-- The operand constraint of the instruction's row of the opcode table. -/
def Instr.wellFormed : Instr → Bool
  | .dfRead i => i.toNat ≤ 9
  | .sysStatus => true
  | .s8Init => true
  | .s8Byte _ => true
  | .s8Read => true
  | .s8Check _ => true
  | .c16Init => true
  | .c16Byte _ => true
  | .c16Read => true
  | .c8Init => true
  | .c8Byte _ => true
  | .c8Read => true
  | .c8Check _ => true
  | .dfStart _ _ => true
  | .dfByte _ => true
  | .dfEmpty => true
  | .htInit _ => true
  | .htGood _ => true
  | .htBad _ => true
  | .htSetthr _ => true
  | .htQgood => true
  | .htQflag => true
  | .rcTick _ => true

end Sys2Proof
end

