-- ==== Sys2Proof/Decode.lean ====
section
/-! DEFINITION. Decoding a command word, total and without state (R88 of 30_encoding.md), the encoder written from
the same map (R80, R81, R83), and the machine-readable table (R91). -/

namespace Sys2Proof

open Sys2Proof.Machine

/-- `cmd[39:32]`. -/
def opOf (w : CommandWord) : Byte := w.extractLsb' 32 8

/-- `cmd[31:0]`. -/
def argOf (w : CommandWord) : Word := w.extractLsb' 0 32

/-- Case 2 of R85: the operand is illegal when a bit the format marks "zero" is 1. -/
def operand (f : Format) (arg : Word) (i : Instr) : Except FaultCode Instr :=
  if f.zeroBitsClear arg then .ok i else .error .illOperand

/-- Case 2 of R85 for format I, where an index above 9 is illegal too. -/
def indexOperand (arg : Word) (i : Instr) : Except FaultCode Instr :=
  if (argIndex arg).toNat ≤ 9 then operand .I arg i else .error .illOperand

/-- The command a word stands for, or the fault it raises: first the opcode (R85 case 1), then the operand
(R85 case 2). -/
def decode (w : CommandWord) : Except FaultCode Instr :=
  let arg := argOf w
  match (opOf w).toNat with
  | 0x00 => operand .N arg .sysStatus
  | 0x10 => operand .N arg .s8Init
  | 0x11 => operand .B arg (.s8Byte (argByte arg))
  | 0x12 => operand .N arg .s8Read
  | 0x13 => operand .B arg (.s8Check (argByte arg))
  | 0x20 => operand .N arg .c16Init
  | 0x21 => operand .B arg (.c16Byte (argByte arg))
  | 0x22 => operand .N arg .c16Read
  | 0x30 => operand .N arg .c8Init
  | 0x31 => operand .B arg (.c8Byte (argByte arg))
  | 0x32 => operand .N arg .c8Read
  | 0x33 => operand .B arg (.c8Check (argByte arg))
  | 0x40 => operand .S arg (.dfStart (argAvail arg) (argByte arg))
  | 0x41 => operand .B arg (.dfByte (argByte arg))
  | 0x42 => operand .N arg .dfEmpty
  | 0x43 => indexOperand arg (.dfRead (argIndex arg))
  | 0x50 => operand .T arg (.htInit arg)
  | 0x51 => operand .T arg (.htGood arg)
  | 0x52 => operand .T arg (.htBad arg)
  | 0x53 => operand .T arg (.htSetthr arg)
  | 0x54 => operand .N arg .htQgood
  | 0x55 => operand .N arg .htQflag
  | 0x60 => operand .T arg (.rcTick arg)
  | _ => .error .illOpcode

/-- The opcode of a command (R83). -/
def Instr.opcode : Instr → Byte
  | .sysStatus => 0x00#8
  | .s8Init => 0x10#8
  | .s8Byte _ => 0x11#8
  | .s8Read => 0x12#8
  | .s8Check _ => 0x13#8
  | .c16Init => 0x20#8
  | .c16Byte _ => 0x21#8
  | .c16Read => 0x22#8
  | .c8Init => 0x30#8
  | .c8Byte _ => 0x31#8
  | .c8Read => 0x32#8
  | .c8Check _ => 0x33#8
  | .dfStart _ _ => 0x40#8
  | .dfByte _ => 0x41#8
  | .dfEmpty => 0x42#8
  | .dfRead _ => 0x43#8
  | .htInit _ => 0x50#8
  | .htGood _ => 0x51#8
  | .htBad _ => 0x52#8
  | .htSetthr _ => 0x53#8
  | .htQgood => 0x54#8
  | .htQflag => 0x55#8
  | .rcTick _ => 0x60#8

/-- The operand word of a command, laid out by its format (R81). -/
def Instr.arg : Instr → Word
  | .sysStatus => 0#32
  | .s8Init => 0#32
  | .s8Byte b => byteArg b
  | .s8Read => 0#32
  | .s8Check c => byteArg c
  | .c16Init => 0#32
  | .c16Byte b => byteArg b
  | .c16Read => 0#32
  | .c8Init => 0#32
  | .c8Byte b => byteArg b
  | .c8Read => 0#32
  | .c8Check c => byteArg c
  | .dfStart avail peek => startArg avail peek
  | .dfByte b => byteArg b
  | .dfEmpty => 0#32
  | .dfRead i => indexArg i
  | .htInit now => now
  | .htGood now => now
  | .htBad now => now
  | .htSetthr thr => thr
  | .htQgood => 0#32
  | .htQflag => 0#32
  | .rcTick now => now

/-- The command word of a command (R80). -/
def encode (i : Instr) : CommandWord := i.opcode ++ i.arg

/-- A row of the machine-readable table: a word `w` selects the row when `w &&& mask = match` (R91). -/
structure TableRow where
  /-- the row's mnemonic -/
  mnemonic : String
  /-- the fixed bits' values -/
  pattern : CommandWord
  /-- the fixed bits -/
  mask : CommandWord
  deriving DecidableEq, Repr

/-- The rows of the six units and of the status unit, transcribed from opcode_table.json (R91). -/
def opcodeTable : List TableRow :=
  [⟨"SYS_STATUS", 0x0000000000#40, 0xFFFFFFFFFF#40⟩,
   ⟨"S8_INIT", 0x1000000000#40, 0xFFFFFFFFFF#40⟩,
   ⟨"S8_BYTE", 0x1100000000#40, 0xFFFFFFFF00#40⟩,
   ⟨"S8_READ", 0x1200000000#40, 0xFFFFFFFFFF#40⟩,
   ⟨"S8_CHECK", 0x1300000000#40, 0xFFFFFFFF00#40⟩,
   ⟨"C16_INIT", 0x2000000000#40, 0xFFFFFFFFFF#40⟩,
   ⟨"C16_BYTE", 0x2100000000#40, 0xFFFFFFFF00#40⟩,
   ⟨"C16_READ", 0x2200000000#40, 0xFFFFFFFFFF#40⟩,
   ⟨"C8_INIT", 0x3000000000#40, 0xFFFFFFFFFF#40⟩,
   ⟨"C8_BYTE", 0x3100000000#40, 0xFFFFFFFF00#40⟩,
   ⟨"C8_READ", 0x3200000000#40, 0xFFFFFFFFFF#40⟩,
   ⟨"C8_CHECK", 0x3300000000#40, 0xFFFFFFFF00#40⟩] ++
  [⟨"DF_START", 0x4000000000#40, 0xFFFF000000#40⟩,
   ⟨"DF_BYTE", 0x4100000000#40, 0xFFFFFFFF00#40⟩,
   ⟨"DF_EMPTY", 0x4200000000#40, 0xFFFFFFFFFF#40⟩,
   ⟨"DF_READ", 0x4300000000#40, 0xFFFFFFFFF0#40⟩,
   ⟨"HT_INIT", 0x5000000000#40, 0xFF00000000#40⟩,
   ⟨"HT_GOOD", 0x5100000000#40, 0xFF00000000#40⟩,
   ⟨"HT_BAD", 0x5200000000#40, 0xFF00000000#40⟩,
   ⟨"HT_SETTHR", 0x5300000000#40, 0xFF00000000#40⟩,
   ⟨"HT_QGOOD", 0x5400000000#40, 0xFFFFFFFFFF#40⟩,
   ⟨"HT_QFLAG", 0x5500000000#40, 0xFFFFFFFFFF#40⟩,
   ⟨"RC_TICK", 0x6000000000#40, 0xFF00000000#40⟩]

/-- A word selects a row (R91). -/
def TableRow.selects (r : TableRow) (w : CommandWord) : Bool := w &&& r.mask == r.pattern

/-- The mnemonic of a command (R83, R89). -/
def Instr.mnemonic : Instr → String
  | .sysStatus => "SYS_STATUS"
  | .s8Init => "S8_INIT"
  | .s8Byte _ => "S8_BYTE"
  | .s8Read => "S8_READ"
  | .s8Check _ => "S8_CHECK"
  | .c16Init => "C16_INIT"
  | .c16Byte _ => "C16_BYTE"
  | .c16Read => "C16_READ"
  | .c8Init => "C8_INIT"
  | .c8Byte _ => "C8_BYTE"
  | .c8Read => "C8_READ"
  | .c8Check _ => "C8_CHECK"
  | .dfStart _ _ => "DF_START"
  | .dfByte _ => "DF_BYTE"
  | .dfEmpty => "DF_EMPTY"
  | .dfRead _ => "DF_READ"
  | .htInit _ => "HT_INIT"
  | .htGood _ => "HT_GOOD"
  | .htBad _ => "HT_BAD"
  | .htSetthr _ => "HT_SETTHR"
  | .htQgood => "HT_QGOOD"
  | .htQflag => "HT_QFLAG"
  | .rcTick _ => "RC_TICK"

/-- The operands in the order the assembler writes them: `DF_START avail, peek` (R89). -/
def Instr.operands : Instr → List Nat
  | .sysStatus => []
  | .s8Init => []
  | .s8Byte b => [b.toNat]
  | .s8Read => []
  | .s8Check c => [c.toNat]
  | .c16Init => []
  | .c16Byte b => [b.toNat]
  | .c16Read => []
  | .c8Init => []
  | .c8Byte b => [b.toNat]
  | .c8Read => []
  | .c8Check c => [c.toNat]
  | .dfStart avail peek => [avail.toNat, peek.toNat]
  | .dfByte b => [b.toNat]
  | .dfEmpty => []
  | .dfRead i => [i.toNat]
  | .htInit now => [now.toNat]
  | .htGood now => [now.toNat]
  | .htBad now => [now.toNat]
  | .htSetthr thr => [thr.toNat]
  | .htQgood => []
  | .htQflag => []
  | .rcTick now => [now.toNat]

/-- One line of assembler text: the mnemonic, then the operands in decimal separated by commas (R89). -/
def Instr.asm (i : Instr) : String :=
  match i.operands with
  | [] => i.mnemonic
  | o :: os => i.mnemonic ++ " " ++ os.foldl (fun t n => t ++ ", " ++ toString n) (toString o)

/-- The command word whose bits are `w` when the table gives the row `nbits` bits; every bit above is 0. -/
def commandWord (nbits w : Nat) : CommandWord := BitVec.ofNat 40 (w % 2 ^ nbits)

/-- What the decoder reads from an instruction whose bits are `w`. A command is one 40-bit word on the command port
(R80): there is no byte order to choose, bit 0 of the table is `cmd[0]` (DEDUCED, safe, log entry 11). -/
def decodeTableWord (nbits w : Nat) : Option Instr :=
  match decode (commandWord nbits w) with
  | .ok i => some i
  | .error _ => none

end Sys2Proof
end

