-- ==== Sys2Proof/Machine/State.lean ====
section
/-! DEFINITION. The state of the block as plain data: every register of R20 (10_state.md), the ports of the step,
and the two reasons the model can stop. -/

namespace Sys2Proof.Machine

/-- `DF.phase`, the phase of the decode attempt (R25). The encodings 6 and 7 are never written (U15), so they have
no constructor (log entry 8). -/
inductive Phase where
  /-- no attempt in progress -/
  | idle
  /-- taking the five info bytes -/
  | info
  /-- taking the forty payload bytes with de-stuffing -/
  | data
  /-- taking the checksum byte with de-stuffing -/
  | chk
  /-- taking the end byte; the spec's `END` -/
  | fin
  /-- discarding bytes after a failure -/
  | drain
  deriving DecidableEq, Repr

/-- `DF.result`, the outcome of the current or last attempt (R31). The encodings 9 to 15 are never written (U15). -/
inductive DfResult where
  | none
  | ok
  | notReady
  | badStart
  | devError
  | badEscape
  | badChecksum
  | badEnd
  | underrun
  deriving DecidableEq, Repr

/-- `RC.state`, the step of the recovery sequence (R42). -/
inductive RcState where
  | idle
  | offWait
  | onWait
  | cleanWait
  deriving DecidableEq, Repr

/-- The response codes (R86); the codes 5 to 14 are never produced. -/
inductive RespCode where
  | ok
  | pending
  | done
  | fail
  | busy
  | fault
  deriving DecidableEq, Repr

/-- The response of a step (R86). -/
structure Response where
  /-- the 4-bit code, by name -/
  code : RespCode
  /-- the 32-bit value -/
  val : Word
  deriving DecidableEq, Repr

/-- The output events of a step (R87). -/
inductive Event where
  /-- bytes the host must write to the Channel, in order -/
  | tx (bytes : List Byte)
  /-- the forced-reset trigger -/
  | trigger
  /-- request to power the sensor off -/
  | pwrOff
  /-- request to power the sensor on -/
  | pwrOn
  /-- request to start the fan-clean cycle -/
  | fanClean
  deriving DecidableEq, Repr

/-- The frame buffer's contents: the listed cells, by strictly rising index (see `Memory.wf` in Machine/Ops.lean). -/
abbrev Memory := List Host.Cell

/-- Why a step of the MODEL stops. The block itself never stops (R226): its own faults are answered and the block
goes on (R212), so none of them is here. -/
inductive Fault where
  /-- Raised by `step` when no command word is present. No step of the block happens without a command (R5, R215),
  so the block would wait. Safe: the model stops where the block stays as it is (log entry 2). -/
  | noCommand
  /-- Raised by `DF_BYTE` when `DF.idx` points past the five info registers in phase INFO or past the forty cells of
  `BUF` in phase DATA: there is no such register or cell (R60, R208) and no run reaches such a state (U15). Safe
  (log entry 7). -/
  | noSuchCell
  deriving DecidableEq, Repr

/-- Why `exec` gives an instruction no meaning. -/
inductive Refusal where
  /-- Raised by an arm of `exec` that has no meaning yet, by the instruction's mnemonic; safe. No arm raises it. -/
  | notModelled (mnemonic : String)
  deriving DecidableEq, Repr

/-- The registers of R20, under their own names (unit prefix first), then the ports of the step. -/
structure State where
  /-- `S8.acc` (R22) -/
  s8Acc : Byte
  /-- `C16.acc` (R23) -/
  c16Acc : BitVec 16
  /-- `C8.acc` (R24) -/
  c8Acc : Byte
  /-- `DF.phase` (R25) -/
  dfPhase : Phase
  /-- `DF.idx` (R26) -/
  dfIdx : BitVec 6
  /-- `DF.esc` (R27) -/
  dfEsc : Bool
  /-- `DF.cnt` (R28) -/
  dfCnt : BitVec 7
  /-- `DF.sum` (R29) -/
  dfSum : Byte
  /-- `DF.drain` (R30) -/
  dfDrain : BitVec 6
  /-- `DF.result` (R31) -/
  dfResult : DfResult
  /-- `DF.info[0..4]` (R32) -/
  dfInfo : Vector Byte 5
  /-- `BUF[0..39]`, the frame buffer (R33, R60, R61) -/
  buf : Memory
  /-- `RD[0..9]`, the Reading (R34, R62) -/
  rd : Vector Word 10
  /-- `DF.rd_valid` (R34) -/
  rdValid : Bool
  /-- `HT.valid` (R35) -/
  htValid : Bool
  /-- `HT.goodCount` (R36) -/
  htGoodCount : Word
  /-- `HT.badStreak` (R37) -/
  htBadStreak : BitVec 16
  /-- `HT.lastGood` (R38) -/
  htLastGood : Word
  /-- `HT.resetThreshold` (R39) -/
  htResetThreshold : Word
  /-- `HT.qualityFlag` (R40) -/
  htQualityFlag : Bool
  /-- `RC.state` (R42) -/
  rcState : RcState
  /-- `RC.t0` (R43) -/
  rcT0 : Word
  /-- `SYS.fault` (R44) -/
  sysFault : Bool
  /-- MODEL's port (DESIGN CHOICE, log entry 1): the command words the host presents, next first (R80). -/
  cmdIn : List CommandWord
  /-- MODEL's port (DESIGN CHOICE, log entry 6): the response of the last step (R86), none before the first. -/
  resp : Option Response
  /-- MODEL's port (DESIGN CHOICE, log entry 6): the events of the last step, in order (R87). -/
  events : List Event
  deriving DecidableEq, Repr

/-- The state after reset (R240 of 70_reset_and_hazards.md, last column of R20). Registers the spec leaves
unspecified hold all ones (DESIGN CHOICE, unsafe, log entry 3: R49 excludes zero); the frame buffer lists nothing
(log entry 4). -/
def State.reset : State where
  s8Acc := 0x00#8
  c16Acc := 0xFFFF#16
  c8Acc := 0xFF#8
  dfPhase := .idle
  dfIdx := 0#6
  dfEsc := false
  dfCnt := 0#7
  dfSum := 0x00#8
  dfDrain := 0#6
  dfResult := .none
  dfInfo := Vector.replicate 5 0xFF#8
  buf := []
  rd := Vector.replicate 10 0xFFFFFFFF#32
  rdValid := false
  htValid := false
  htGoodCount := 0xFFFFFFFF#32
  htBadStreak := 0xFFFF#16
  htLastGood := 0xFFFFFFFF#32
  htResetThreshold := 1200000#32
  htQualityFlag := true
  rcState := .idle
  rcT0 := 0xFFFFFFFF#32
  sysFault := false
  cmdIn := []
  resp := none
  events := []

end Sys2Proof.Machine
end

