-- ==== Sys2Proof/Machine/Ops.lean ====
section
/-! DEFINITION. The operations the meanings share: the frame buffer, answering a command, raising a fault, the
command port, the time difference, saturating increment. -/

namespace Sys2Proof

/-- The fault codes (R213). -/
def FaultCode.val : FaultCode → Word
  | .illOpcode => 1#32
  | .illOperand => 2#32
  | .dfSequence => 3#32
  | .htUninit => 4#32
  | .noReading => 5#32

end Sys2Proof

namespace Sys2Proof.Machine

/-- What one step of the block answers. -/
abbrev Out := Host.Outcome State Fault Refusal

/-! ## The frame buffer -/

/-- The number of cells of `BUF` (R60). -/
def bufCells : Nat := 40

/-- What a cell of `BUF` reads as that nothing has written since reset (DESIGN CHOICE, unsafe, log entry 4; no
command can observe it, R49). -/
def Memory.blank : Byte := 0xFF#8

/-- The byte at index `a`. -/
def Memory.read : Memory → Nat → Byte
  | [], _ => Memory.blank
  | (k, b) :: m, a => if a = k then b else Memory.read m a

/-- Put byte `v` at index `a`, keeping the list in its canonical form. -/
def Memory.write : Memory → Nat → Byte → Memory
  | [], a, v => if v = Memory.blank then [] else [(a, v)]
  | (k, b) :: m, a, v =>
    if a < k then (if v = Memory.blank then (k, b) :: m else (a, v) :: (k, b) :: m)
    else if a = k then (if v = Memory.blank then m else (a, v) :: m)
    else (k, b) :: Memory.write m a v

/-- The canonical form of a list whose indices start at `lo`: strictly rising indices below 40, no entry equal to
what an unlisted cell reads as. -/
def Memory.wfFrom : Nat → Memory → Bool
  | _, [] => true
  | lo, (k, b) :: m => decide (lo ≤ k) && decide (k < bufCells) && b != Memory.blank && Memory.wfFrom (k + 1) m

/-- The canonical form, so that equal frame buffers are equal lists. -/
def Memory.wf (m : Memory) : Bool := Memory.wfFrom 0 m

/-- `MemRead(addr, n)`: `n` bytes from index `addr`, the byte at `addr` at the most significant end (R63). -/
def Memory.memRead (m : Memory) (addr : Nat) : (n : Nat) → BitVec (8 * n)
  | 0 => 0#0
  | n + 1 => Memory.memRead m addr n ++ m.read (addr + n)

/-- `MemWrite(addr, n, v)`: the inverse, most significant byte first (R63). -/
def Memory.memWrite (m : Memory) (addr : Nat) : (n : Nat) → BitVec (8 * n) → Memory
  | 0, _ => m
  | n + 1, v => (Memory.memWrite m addr n (v.extractLsb' 8 (8 * n))).write (addr + n) (v.extractLsb' 0 8)

/-- `RD[i] = MemRead(4i, 4)` for `i` in 0..9 (R64). -/
def Memory.reading (m : Memory) : Vector Word 10 :=
  #v[m.memRead 0 4, m.memRead 4 4, m.memRead 8 4, m.memRead 12 4, m.memRead 16 4,
     m.memRead 20 4, m.memRead 24 4, m.memRead 28 4, m.memRead 32 4, m.memRead 36 4]

/-! ## Numbers -/

/-- `elapsed(now, t) = (now − t) mod 2^32` (R9 of 00_scope.md, R171 of 44_health.md). -/
def elapsed (now t : Word) : Word := now - t

/-- `min(v + 1, 2^n − 1)`: a counter that saturates (R36, R37). -/
def satInc {n : Nat} (v : BitVec n) : BitVec n := BitVec.ofNat n (min (v.toNat + 1) (2 ^ n - 1))

/-! ## Codes -/

/-- The response codes (R86). -/
def RespCode.val : RespCode → BitVec 4
  | .ok => 0#4
  | .pending => 1#4
  | .done => 2#4
  | .fail => 3#4
  | .busy => 4#4
  | .fault => 15#4

/-- The values of `DF.result` (R31). -/
def DfResult.val : DfResult → BitVec 4
  | .none => 0#4
  | .ok => 1#4
  | .notReady => 2#4
  | .badStart => 3#4
  | .devError => 4#4
  | .badEscape => 5#4
  | .badChecksum => 6#4
  | .badEnd => 7#4
  | .underrun => 8#4

/-- The values of `DF.phase` (R25). -/
def Phase.val : Phase → BitVec 3
  | .idle => 0#3
  | .info => 1#3
  | .data => 2#3
  | .chk => 3#3
  | .fin => 4#3
  | .drain => 5#3

/-- The values of `RC.state` (R42). -/
def RcState.val : RcState → BitVec 2
  | .idle => 0#2
  | .offWait => 1#2
  | .onWait => 2#2
  | .cleanWait => 3#2

/-- The response as a 36-bit word, `code ‖ val` (R86). -/
def Response.wire (r : Response) : BitVec 36 := r.code.val ++ r.val

/-! ## Ending a step -/

/-- The outputs of a step put on the ports: the response and the events (R86, R87). -/
def State.answer (s : State) (code : RespCode) (val : Word) (events : List Event) : State :=
  { s with resp := some ⟨code, val⟩, events := events }

/-- `respond(code, val)` as the end of a step that emitted `events` (R9). -/
def State.respond (s : State) (code : RespCode) (val : Word) (events : List Event) : Out :=
  .next (s.answer code val events)

/-- Taking a fault, the one shared operation (R212, R217): `SYS.fault <- 1`, the response `(FAULT, c)`, no event, no
other write. The block goes on with the next command. There is no handler and no return (R218). -/
def State.raiseFault (s : State) (c : FaultCode) : State :=
  { s with sysFault := true, resp := some ⟨.fault, c.val⟩, events := [] }

/-- `raise Fault(c)`: the step ends at once (R9). -/
def State.raise (s : State) (c : FaultCode) : Out := .next (s.raiseFault c)

/-! ## The ports -/

/-- The host presents a command word as the next command (R80). -/
def State.present (s : State) (w : CommandWord) : State := { s with cmdIn := w :: s.cmdIn }

/-- The next command word and the state with the word taken from the port; none when the host presents nothing. -/
def State.takeCommand (s : State) : Option (CommandWord × State) :=
  match s.cmdIn with
  | [] => none
  | w :: rest => some (w, { s with cmdIn := rest })

/-- The effect of the reset input, which is outside the step model (R240, R241): every register at its reset value,
no response and no event. The words the host has yet to present are the host's and stay (log entry 10). -/
def State.applyReset (s : State) : State := { State.reset with cmdIn := s.cmdIn }

end Sys2Proof.Machine
end

