-- ==== Sys2Proof/Machine/Flags.lean ====
section
/-! DEFINITION. The one-bit values the spec computes: the level outputs (R47), the quality rule (R40), and the
status word that shows the flags (R206). The block has no condition codes and no arithmetic flags (R45). -/

namespace Sys2Proof.Machine

/-- A one-bit value widened with zeros, `zext_32`. -/
def bit (b : Bool) : Word := (BitVec.ofBool b).setWidth 32

/-- Level output `rc_busy = (RC.state != IDLE)` (R47). -/
def State.rcBusy (s : State) : Bool := s.rcState != .idle

/-- Level output `quality = HT.qualityFlag` (R47), meaningful only while `HT.valid = 1` (U8, log entry 9). -/
def State.quality (s : State) : Bool := s.htQualityFlag

/-- `BAD_LIMIT`, the number of consecutive failures that clears the quality flag (R6). -/
def badLimit : Nat := 5

/-- The quality flag after a failure that made the streak `streak` (R40, R174). -/
def qualityAfterBad (streak : BitVec 16) (flag : Bool) : Bool :=
  if badLimit ≤ streak.toNat then false else flag

/-- The status word (R206). -/
def State.statusWord (s : State) : Word :=
  bit s.sysFault ||| bit s.htValid <<< 1 ||| bit s.rdValid <<< 2 ||| bit s.rcBusy <<< 3 |||
    s.dfPhase.val.setWidth 32 <<< 4 ||| s.dfResult.val.setWidth 32 <<< 8 ||| s.rcState.val.setWidth 32 <<< 12

end Sys2Proof.Machine
end

