-- ==== Sys2Proof/Machine/Crc16.lean ====
section
/-! DEFINITION. CRC16, the CRC-16 generator (41_crc16.md). -/

namespace Sys2Proof.Machine

/-- One shift: right by one, with 0xA001 exclusive-ored in when the bit shifted out is 1 (R110). -/
def crc16Shift (r : BitVec 16) : BitVec 16 :=
  if r.getLsbD 0 then (r >>> 1) ^^^ 0xA001#16 else r >>> 1

/-- `crc16_step(acc, b)`: the byte goes into the low eight bits, then eight shifts (R110). -/
def crc16Step (acc : BitVec 16) (b : Byte) : BitVec 16 :=
  Nat.repeat crc16Shift 8 (acc ^^^ b.setWidth 16)

/-- `crc16` of a byte sequence, from 0xFFFF (R110). -/
def crc16 (m : List Byte) : BitVec 16 := m.foldl crc16Step 0xFFFF#16

/-- `C16_INIT` (R111). -/
def execC16Init (s : State) : Out := { s with c16Acc := 0xFFFF#16 }.respond .ok 0#32 []

/-- `C16_BYTE b` (R112). -/
def execC16Byte (b : Byte) (s : State) : Out := { s with c16Acc := crc16Step s.c16Acc b }.respond .ok 0#32 []

/-- `C16_READ` (R113): the register as it stands, no final inversion, no reversal. -/
def execC16Read (s : State) : Out := s.respond .ok (s.c16Acc.setWidth 32) []

end Sys2Proof.Machine
end

