-- ==== Sys2Proof/Machine/Crc8.lean ====
section
/-! DEFINITION. CRC8, the CRC-8 generator and validator (42_crc8.md). -/

namespace Sys2Proof.Machine

/-- One shift: left by one, with 0x31 exclusive-ored in when the bit shifted out is 1 (R120). -/
def crc8Shift (r : Byte) : Byte :=
  if r.getLsbD 7 then (r <<< 1) ^^^ 0x31#8 else r <<< 1

/-- `crc8_step(acc, b)`: the byte goes into the whole register, then eight shifts (R120). -/
def crc8Step (acc b : Byte) : Byte := Nat.repeat crc8Shift 8 (acc ^^^ b)

/-- `crc8` of a byte sequence, from 0xFF (R120). -/
def crc8 (m : List Byte) : Byte := m.foldl crc8Step 0xFF#8

/-- `C8_INIT` (R121). -/
def execC8Init (s : State) : Out := { s with c8Acc := 0xFF#8 }.respond .ok 0#32 []

/-- `C8_BYTE b` (R122). -/
def execC8Byte (b : Byte) (s : State) : Out := { s with c8Acc := crc8Step s.c8Acc b }.respond .ok 0#32 []

/-- `C8_READ` (R123). -/
def execC8Read (s : State) : Out := s.respond .ok (s.c8Acc.setWidth 32) []

/-- `C8_CHECK c` (R124): a mismatch is an answer, not a fault. -/
def execC8Check (c : Byte) (s : State) : Out := s.respond .ok (bit (s.c8Acc == c)) []

end Sys2Proof.Machine
end

