-- ==== Sys2Proof/Machine/Deframer.lean ====
section
/-! DEFINITION. DF, the SPS30 UART deframer and de-stuffer (43_deframer.md). -/

namespace Sys2Proof.Machine

/-! ## Constants (R6) -/

/-- `FRAME_DELIM`. -/
def frameDelim : Byte := 0x7E#8

/-- `ESC`, the escape marker. -/
def escMarker : Byte := 0x7D#8

/-- `REQ_FRAME`, the request frame (R148). -/
def reqFrame : List Byte := [0x7E#8, 0x00#8, 0x03#8, 0x00#8, 0xFC#8, 0x7E#8]

/-- `MIN_FRAME`, the bytes that must be buffered, and the expected length a drain is counted against (R146). -/
def minFrame : Nat := 47

/-- `DRAIN_MAX`, the bytes drained after a bad start. -/
def drainMax : Nat := 60

/-- The number of info registers (`INFO_LEN`). -/
def infoLen : Nat := 5

/-- The de-stuffing table (R132); none for the other 252 bytes. -/
def unstuff (e : Byte) : Option Byte :=
  if e = 0x5E#8 then some 0x7E#8
  else if e = 0x5D#8 then some 0x7D#8
  else if e = 0x31#8 then some 0x11#8
  else if e = 0x33#8 then some 0x13#8
  else none

/-! ## The parts of `DF_BYTE` -/

/-- The value of a `FAIL` response: the `DF.result` number, widened (R86). -/
def DfResult.word (r : DfResult) : Word := r.val.setWidth 32

/-- `fail(r)` (R145): with `DF.cnt` bytes consumed, `47 − DF.cnt` remain to drain, or none (R146). -/
def State.dfFail (r : DfResult) (s : State) : Out :=
  if s.dfCnt.toNat < minFrame then
    { s with dfResult := r, dfEsc := false, dfDrain := BitVec.ofNat 6 (minFrame - s.dfCnt.toNat),
             dfPhase := .drain }.respond .pending 0#32 []
  else
    { s with dfResult := r, dfEsc := false, dfDrain := 0#6, dfPhase := .idle }.respond .fail r.word []

/-- The device-state test, in the step that takes the fifth info byte (R137). -/
def State.dfDeviceTest (s : State) : Out :=
  if s.dfInfo[3] ≠ 0x00#8 then s.dfFail .devError
  else { s with dfPhase := .data, dfIdx := 0#6 }.respond .pending 0#32 []

/-- The info registers and the sum after byte `b` is taken as info byte `k` (R136): the start byte is not summed
(R140). -/
def State.dfStoreInfo (k : Nat) (h : k < 5) (b : Byte) (s : State) : State :=
  { s with dfInfo := s.dfInfo.set k b h, dfSum := if 1 ≤ k then s.dfSum + b else s.dfSum }

/-- `DF_BYTE` in phase INFO (R136). An index past the five registers is no register (log entry 7). -/
def State.dfInfoByte (b : Byte) (s : State) : Out :=
  if h : s.dfIdx.toNat < 5 then
    let s' := s.dfStoreInfo s.dfIdx.toNat h b
    if s.dfIdx.toNat < 4 then { s' with dfIdx := s.dfIdx + 1 }.respond .pending 0#32 []
    else s'.dfDeviceTest
  else .fault .noSuchCell

/-- De-stuffing (R138): what a byte of phase DATA or CHK delivers to `deliver`. -/
def State.dfDestuff (deliver : Byte → State → Out) (b : Byte) (s : State) : Out :=
  if s.dfEsc then
    match unstuff b with
    | none => s.dfFail .badEscape
    | some v => deliver v { s with dfEsc := false }
  else if b = escMarker then { s with dfEsc := true }.respond .pending 0#32 []
  else deliver b s

/-- Delivering a payload value in phase DATA (R139). An index past the forty cells is no cell (log entry 7). -/
def State.dfPayload (v : Byte) (s : State) : Out :=
  if s.dfIdx.toNat < bufCells then
    let s' := { s with buf := s.buf.memWrite s.dfIdx.toNat 1 v, dfSum := s.dfSum + v }
    if s.dfIdx.toNat = 39 then { s' with dfPhase := .chk }.respond .pending 0#32 []
    else { s' with dfIdx := s.dfIdx + 1 }.respond .pending 0#32 []
  else .fault .noSuchCell

/-- Delivering the checksum value in phase CHK (R141). -/
def State.dfChecksum (v : Byte) (s : State) : Out :=
  if v = ~~~s.dfSum then { s with dfPhase := .fin }.respond .pending 0#32 []
  else s.dfFail .badChecksum

/-- Success (R143): all ten words of `RD` in one step. -/
def State.dfSucceed (s : State) : Out :=
  { s with rd := s.buf.reading, rdValid := true, dfResult := .ok, dfPhase := .idle }.respond .done 0#32 []

/-- `DF_BYTE` in phase END (R142): the byte is taken raw. -/
def State.dfEnd (b : Byte) (s : State) : Out :=
  if b = frameDelim then s.dfSucceed else s.dfFail .badEnd

/-- `DF_BYTE` in phase DRAIN (R144): the byte is discarded. -/
def State.dfDrop (s : State) : Out :=
  let s' := { s with dfDrain := s.dfDrain - 1 }
  if s.dfDrain - 1 = 0#6 then { s' with dfPhase := .idle }.respond .fail s.dfResult.word []
  else s'.respond .pending 0#32 []

/-! ## The commands -/

/-- `DF_START avail, peek` (R134): the request frame is emitted in all four outcomes. -/
def execDfStart (avail : BitVec 16) (peek : Byte) (s : State) : Out :=
  if s.dfPhase ≠ .idle then s.raise .dfSequence
  else
    let s' := { s with dfCnt := 0#7, dfEsc := false, dfIdx := 0#6, dfSum := 0x00#8 }
    if avail = 0#16 then
      { s' with dfResult := .notReady }.respond .fail DfResult.notReady.word [.tx reqFrame]
    else if peek ≠ frameDelim then
      { s' with dfResult := .badStart, dfDrain := BitVec.ofNat 6 drainMax, dfPhase := .drain }.respond
        .pending 0#32 [.tx reqFrame]
    else if avail.toNat < minFrame then
      { s' with dfResult := .notReady }.respond .fail DfResult.notReady.word [.tx reqFrame]
    else
      { s' with dfResult := .none, dfPhase := .info }.respond .pending 0#32 [.tx reqFrame]

/-- `DF_BYTE b` (R135): the count is raised before the phase's rule runs. -/
def execDfByte (b : Byte) (s : State) : Out :=
  let s' := { s with dfCnt := s.dfCnt + 1 }
  match s.dfPhase with
  | .idle => s.raise .dfSequence
  | .info => s'.dfInfoByte b
  | .data => s'.dfDestuff State.dfPayload b
  | .chk => s'.dfDestuff State.dfChecksum b
  | .fin => s'.dfEnd b
  | .drain => s'.dfDrop

/-- `DF_EMPTY` (R147): the Channel has no byte to give. -/
def execDfEmpty (s : State) : Out :=
  match s.dfPhase with
  | .idle => s.raise .dfSequence
  | .drain => { s with dfDrain := 0#6, dfPhase := .idle }.respond .fail s.dfResult.word []
  | .info | .data | .chk | .fin =>
    { s with dfResult := .underrun, dfEsc := false, dfPhase := .idle }.respond .fail DfResult.underrun.word []

/-- `DF_READ i` (R150): one word of the Reading, in any phase. The index test stands here too, so that a term no
command word spells has the rule's own outcome (DEDUCED, safe, log entry 12). -/
def execDfRead (i : BitVec 4) (s : State) : Out :=
  if h : i.toNat < 10 then
    if s.rdValid then s.respond .ok s.rd[i.toNat] [] else s.raise .noReading
  else s.raise .illOperand

end Sys2Proof.Machine
end

