-- ==== Sys2Proof/Machine/Health.lean ====
section
/-! DEFINITION. HT, the health tracker (44_health.md). -/

namespace Sys2Proof.Machine

/-- The trigger of the age check (R175, R191): the recovery sequence starts and the age timer restarts. -/
def State.startRecovery (now : Word) (s : State) : State :=
  { s with rcState := .offWait, rcT0 := now, htLastGood := now }

/-- `AgeCheck(now)` (R175): an age equal to the threshold fires. -/
def State.ageCheck (now : Word) (s : State) : Out :=
  if s.htResetThreshold ≤ elapsed now s.htLastGood then
    (s.startRecovery now).respond .ok 1#32 [.trigger, .pwrOff]
  else s.respond .ok 0#32 []

/-- The busy refusal (R180, R225): nothing is written. -/
def State.refuseBusy (s : State) : Out := s.respond .busy 0#32 []

/-- The update of a success (R173). -/
def State.countGood (now : Word) (s : State) : State :=
  { s with htGoodCount := satInc s.htGoodCount, htBadStreak := 0#16, htLastGood := now, htQualityFlag := true }

/-- The update of a failure (R174): the test sees the value just written. -/
def State.countBad (s : State) : State :=
  { s with htBadStreak := satInc s.htBadStreak,
           htQualityFlag := qualityAfterBad (satInc s.htBadStreak) s.htQualityFlag }

/-- `HT_INIT now` (R172): never guarded by `HT.valid`; the threshold is not written. -/
def execHtInit (now : Word) (s : State) : Out :=
  if s.rcBusy then s.refuseBusy
  else { s with htValid := true, htGoodCount := 1#32, htBadStreak := 0#16, htLastGood := now,
                htQualityFlag := true }.respond .ok 0#32 []

/-- `HT_GOOD now` (R173). -/
def execHtGood (now : Word) (s : State) : Out :=
  if !s.htValid then s.raise .htUninit
  else if s.rcBusy then s.refuseBusy
  else (s.countGood now).ageCheck now

/-- `HT_BAD now` (R174). -/
def execHtBad (now : Word) (s : State) : Out :=
  if !s.htValid then s.raise .htUninit
  else if s.rcBusy then s.refuseBusy
  else s.countBad.ageCheck now

/-- `HT_SETTHR thr` (R179): accepted in every state, makes no age check. -/
def execHtSetthr (thr : Word) (s : State) : Out := { s with htResetThreshold := thr }.respond .ok 0#32 []

/-- `HT_QGOOD` (R176). -/
def execHtQgood (s : State) : Out :=
  if !s.htValid then s.raise .htUninit else s.respond .ok s.htGoodCount []

/-- `HT_QFLAG` (R177). -/
def execHtQflag (s : State) : Out :=
  if !s.htValid then s.raise .htUninit else s.respond .ok (bit s.htQualityFlag) []

/-- The document's names for the health of a device, for reading only: no register holds one and no rule uses one
(R181). -/
inductive HealthName where
  | unknown
  | good
  | degraded
  | failed
  deriving DecidableEq, Repr

/-- The informative mapping of R181; none before `HT_INIT`, where no condition of the mapping holds. -/
def State.healthName (s : State) : Option HealthName :=
  if !s.htValid then none
  else if s.rcState ≠ .idle then some .failed
  else if s.htGoodCount = 1#32 ∧ s.htBadStreak = 0#16 then some .unknown
  else if s.htQualityFlag then some .good
  else some .degraded

end Sys2Proof.Machine
end

