-- ==== Sys2Proof/Config.lean ====
section
/-! DEFINITION. What an instance of the block fixes and the spec leaves open: the four parameters of R7
(00_scope.md), R48 (10_state.md), D30 (92_eei_decisions.md). Each is an opaque constant, so every statement holds
for all of their values (U1 of 93_implementation_defined.md).

DEDUCED, safe (log entry 5): the spec bounds `T_OFF_MS` by 2000 and 20000, so the open part is the excess over 2000,
one of 18001 values. -/

namespace Sys2Proof.Config

/-- How far `T_OFF_MS` lies above its least legal value 2000. -/
opaque tOffExcess : Fin 18001

/-- `T_ON_MS`, any 32-bit number of milliseconds (R195 of 45_recovery.md). -/
opaque tOnMs : Word

/-- `T_CLEAN_MS`, any 32-bit number of milliseconds (R197). -/
opaque tCleanMs : Word

/-- `HAS_CLEAN`: true for an SPS30 instance (R195). -/
opaque hasClean : Bool

/-- The parameters of an instance, together. -/
structure Params where
  /-- least time from the power-off request to the power-on request -/
  tOff : Word
  /-- least time from the power-on request to the next step -/
  tOn : Word
  /-- least settle time after the fan-clean request -/
  tClean : Word
  /-- whether the sequence includes the fan-clean step -/
  hasClean : Bool
  deriving DecidableEq, Repr

/-- The bounds the spec puts on the parameters (R7, R194). -/
def Params.legal (p : Params) : Bool :=
  2000 ≤ p.tOff.toNat && p.tOff.toNat ≤ 20000

/-- The parameters of this instance. -/
def params : Params where
  tOff := BitVec.ofNat 32 (2000 + tOffExcess.val)
  tOn := tOnMs
  tClean := tCleanMs
  hasClean := Config.hasClean

end Sys2Proof.Config
end

