-- ==== Sys2Proof/Machine/Recovery.lean ====
section
/-! DEFINITION. RC, the recovery sequencer (45_recovery.md). The delays and the fan-clean option are the instance's
parameters (R7); the rule is written over any parameters and the command uses the instance's. -/

namespace Sys2Proof.Machine

open Sys2Proof.Config (Params)

/-- `Complete(now)` (R196): the sequence ends and the age timer is re-armed. -/
def State.completeRecovery (now : Word) (s : State) : State := { s with rcState := .idle, htLastGood := now }

/-- Entering a wait state at `now` (R43). -/
def State.enterWait (w : RcState) (now : Word) (s : State) : State := { s with rcState := w, rcT0 := now }

/-- At most one transition of the sequence, with the event it emits (R193 to R197). -/
def State.rcAdvance (p : Params) (now : Word) (s : State) : State × List Event :=
  match s.rcState with
  | .idle => (s, [])
  | .offWait => if p.tOff ≤ elapsed now s.rcT0 then (s.enterWait .onWait now, [.pwrOn]) else (s, [])
  | .onWait =>
    if p.tOn ≤ elapsed now s.rcT0 then
      if p.hasClean then (s.enterWait .cleanWait now, [.fanClean]) else (s.completeRecovery now, [])
    else (s, [])
  | .cleanWait => if p.tClean ≤ elapsed now s.rcT0 then (s.completeRecovery now, []) else (s, [])

/-- `RC_TICK` on an instance with parameters `p`: the answer is the state after this step (R193). -/
def State.rcTick (p : Params) (now : Word) (s : State) : Out :=
  let r := s.rcAdvance p now
  r.1.respond .ok (r.1.rcState.val.setWidth 32) r.2

/-- `RC_TICK now` (R193): does not need `HT.valid`. -/
def execRcTick (now : Word) (s : State) : Out := s.rcTick Config.params now

end Sys2Proof.Machine
end

