-- ==== Sys2Proof/Machine/Sum8.lean ====
section
/-! DEFINITION. SUM8, the additive 8-bit checksum generator and validator (40_sum8.md). -/

namespace Sys2Proof.Machine

/-- `sum8` of a byte sequence (R100). -/
def sum8 (m : List Byte) : Byte := m.foldl (fun acc b => acc + b) 0x00#8

/-- The checksum of a running sum: its one's complement (R100). -/
def chk8 (sum : Byte) : Byte := ~~~sum

/-- `S8_INIT` (R101). -/
def execS8Init (s : State) : Out := { s with s8Acc := 0x00#8 }.respond .ok 0#32 []

/-- `S8_BYTE b` (R102): the carry out of bit 7 is dropped. -/
def execS8Byte (b : Byte) (s : State) : Out := { s with s8Acc := s.s8Acc + b }.respond .ok 0#32 []

/-- `S8_READ` (R103): the inverted sum. -/
def execS8Read (s : State) : Out := s.respond .ok ((chk8 s.s8Acc).setWidth 32) []

/-- `S8_CHECK c` (R104): a mismatch is an answer, not a fault. -/
def execS8Check (c : Byte) (s : State) : Out := s.respond .ok (bit (chk8 s.s8Acc == c)) []

end Sys2Proof.Machine
end

