-- ==== Sys2Proof/Machine/System.lean ====
section
/-! DEFINITION. SYS, the status command (46_system.md). -/

namespace Sys2Proof.Machine

/-- `SYS_STATUS` (R205): answers the status word, writes nothing, in every state. -/
def execSysStatus (s : State) : Out := s.respond .ok s.statusWord []

end Sys2Proof.Machine
end

