-- ==== Sys2Proof/Machine/Dispatch.lean ====
section
/-! DEFINITION. One arm per command, each one direct call of the command's meaning. -/

namespace Sys2Proof.Machine

def exec (i : Instr) (s : State) : Host.Outcome State Fault Refusal :=
  match i with
  | .sysStatus => Sys2Proof.Machine.execSysStatus s
  | .s8Init => Sys2Proof.Machine.execS8Init s
  | .s8Byte b => Sys2Proof.Machine.execS8Byte b s
  | .s8Read => Sys2Proof.Machine.execS8Read s
  | .s8Check c => Sys2Proof.Machine.execS8Check c s
  | .c16Init => Sys2Proof.Machine.execC16Init s
  | .c16Byte b => Sys2Proof.Machine.execC16Byte b s
  | .c16Read => Sys2Proof.Machine.execC16Read s
  | .c8Init => Sys2Proof.Machine.execC8Init s
  | .c8Byte b => Sys2Proof.Machine.execC8Byte b s
  | .c8Read => Sys2Proof.Machine.execC8Read s
  | .c8Check c => Sys2Proof.Machine.execC8Check c s
  | .dfStart avail peek => Sys2Proof.Machine.execDfStart avail peek s
  | .dfByte b => Sys2Proof.Machine.execDfByte b s
  | .dfEmpty => Sys2Proof.Machine.execDfEmpty s
  | .dfRead k => Sys2Proof.Machine.execDfRead k s
  | .htInit now => Sys2Proof.Machine.execHtInit now s
  | .htGood now => Sys2Proof.Machine.execHtGood now s
  | .htBad now => Sys2Proof.Machine.execHtBad now s
  | .htSetthr thr => Sys2Proof.Machine.execHtSetthr thr s
  | .htQgood => Sys2Proof.Machine.execHtQgood s
  | .htQflag => Sys2Proof.Machine.execHtQflag s
  | .rcTick now => Sys2Proof.Machine.execRcTick now s

end Sys2Proof.Machine
end

