-- ==== Sys2Proof/Machine/Step.lean ====
section
/-! DEFINITION. One step of the block: one command word taken from the port, decoded and carried out
(R5 of 00_scope.md, R88 of 30_encoding.md). -/

namespace Sys2Proof.Machine

/-- One atomic step. A word that decodes runs its command; an illegal word is answered with its fault, with no other
effect (R85). With no command present there is no step (log entry 2). -/
def step (s : State) : Host.Outcome State Fault Refusal :=
  match s.takeCommand with
  | none => .fault .noCommand
  | some (w, s') =>
    match decode w with
    | .ok i => exec i s'
    | .error c => s'.raise c

/-- `s` with the word `w` presented as the next command (log entry 1). -/
def State.withFetchWord (s : State) (nbits w : Nat) : State := s.present (commandWord nbits w)

end Sys2Proof.Machine
end

