-- ==== Sys2Proof/Machine/Procedures.lean ====
section
/-! DEFINITION. What the spec defines over several commands or over the results of commands: pseudo-commands (R90 of
30_encoding.md), stuffing and frames (R133, R156 of 43_deframer.md), the attempt procedure (R153), the error classes
and the kinds of outcome (R210, R211 of 60_exceptions.md). The block knows nothing of them. -/

namespace Sys2Proof.Machine

/-- Commands carried out one after another (R71 of 20_memory.md), stopping where the model stops. -/
def runAll : List Instr → State → Out
  | [], s => .next s
  | i :: is, s =>
    match exec i s with
    | .next s' => runAll is s'
    | .fault r => .fault r
    | .refused r => .refused r

/-! ## Pseudo-commands (R90) -/

/-- `S8_MSG`. -/
def s8Msg (m : List Byte) : List Instr := .s8Init :: m.map .s8Byte

/-- `C16_MSG`. -/
def c16Msg (m : List Byte) : List Instr := .c16Init :: m.map .c16Byte

/-- `C8_MSG`. -/
def c8Msg (m : List Byte) : List Instr := .c8Init :: m.map .c8Byte

/-- `C8_GROUP d0, d1, c`. -/
def c8Group (d0 d1 c : Byte) : List Instr := [.c8Init, .c8Byte d0, .c8Byte d1, .c8Check c]

/-! ## Frames -/

/-- One byte stuffed (R133). -/
def stuffByte (v : Byte) : List Byte :=
  if v = 0x7E#8 then [0x7D#8, 0x5E#8]
  else if v = 0x7D#8 then [0x7D#8, 0x5D#8]
  else if v = 0x11#8 then [0x7D#8, 0x31#8]
  else if v = 0x13#8 then [0x7D#8, 0x33#8]
  else [v]

/-- A byte sequence stuffed (R133). -/
def stuff : List Byte → List Byte
  | [] => []
  | v :: p => stuffByte v ++ stuff p

/-- The checksum byte of a frame: over info bytes 1 to 4 and the payload, without the start byte (R140, R156). -/
def frameChecksum (info : List Byte) (payload : List Byte) : Byte := chk8 (sum8 (info ++ payload))

/-- A good frame from info bytes 1 to 4 and a payload (R156). -/
def frame (info : List Byte) (payload : List Byte) : List Byte :=
  frameDelim :: (info ++ stuff (payload ++ [frameChecksum info payload]) ++ [frameDelim])

/-! ## The attempt (R153) -/

/-- The last response was PENDING: the deframer wants the next byte (R86). -/
def State.wantsByte (s : State) : Bool :=
  match s.resp with
  | some r => r.code == .pending
  | none => false

/-- The host's loop of R153 over the Channel's bytes, with the number of bytes consumed so far. `DF_EMPTY` never
answers PENDING, so the loop gives it at most once. -/
def feedChannel : List Byte → Nat → State → Out × Nat
  | [], n, s => if s.wantsByte then (exec .dfEmpty s, n) else (.next s, n)
  | c :: ch, n, s =>
    if s.wantsByte then
      match exec (.dfByte c) s with
      | .next s' => feedChannel ch (n + 1) s'
      | o => (o, n + 1)
    else (.next s, n)

/-- `attempt(ch)`: the final state and the number of bytes consumed (R153). -/
def attempt (ch : List Byte) (s : State) : Out × Nat :=
  match exec (.dfStart (availOf ch.length) (ch.headD 0x00#8)) s with
  | .next s' => feedChannel ch 0 s'
  | o => (o, 0)

/-! ## Classes and kinds -/

/-- The document's error classes (R210). -/
inductive ErrorClass where
  | transportNotReady
  | frameIntegrity
  | persistentDegradation
  | staleData
  deriving DecidableEq, Repr

/-- The class of a failed attempt (R31, R210). -/
def DfResult.errorClass : DfResult → Option ErrorClass
  | .none => Option.none
  | .ok => Option.none
  | .notReady => some .transportNotReady
  | .badStart => some .frameIntegrity
  | .devError => some .frameIntegrity
  | .badEscape => some .frameIntegrity
  | .badChecksum => some .frameIntegrity
  | .badEnd => some .frameIntegrity
  | .underrun => some .transportNotReady

/-- The kinds of outcome of a step (R211). -/
inductive StepKind where
  | carriedOut
  | attemptFailed
  | refusal
  | faulted
  deriving DecidableEq, Repr

/-- The response code tells the kind (R211). -/
def RespCode.kind : RespCode → StepKind
  | .ok => .carriedOut
  | .pending => .carriedOut
  | .done => .carriedOut
  | .fail => .attemptFailed
  | .busy => .refusal
  | .fault => .faulted

end Sys2Proof.Machine
end

