-- ==== Sys2Proof/Safety.lean ====
section
/-! DEFINITION. What counts as a legal state and a safe step, in the terms the statements use: the invariants of the
registers, which registers hold a value a command may rely on, and the vocabulary of the statements. -/

namespace Sys2Proof.Machine

/-! ## Legal states -/

/-- `DF.esc` as a number. -/
def State.escNat (s : State) : Nat := s.dfEsc.toNat

/-- The deframer's registers in every state a run reaches: the ranges of R26 to R31 and U15
(93_implementation_defined.md), and how `DF.cnt` goes with the phase (R28, R136 to R146). -/
abbrev State.DfInv (s : State) : Prop :=
  (s.dfPhase = .idle → s.dfEsc = false ∧ s.dfCnt.toNat ≤ 88) ∧
  (s.dfPhase = .info → s.dfEsc = false ∧ s.dfIdx.toNat ≤ 4 ∧ s.dfCnt.toNat = s.dfIdx.toNat) ∧
  (s.dfPhase = .data → s.dfIdx.toNat ≤ 39 ∧ 5 + s.dfIdx.toNat + s.escNat ≤ s.dfCnt.toNat ∧
    s.dfCnt.toNat ≤ 5 + 2 * s.dfIdx.toNat + s.escNat) ∧
  (s.dfPhase = .chk → s.dfIdx.toNat = 39 ∧ 45 + s.escNat ≤ s.dfCnt.toNat ∧ s.dfCnt.toNat ≤ 85 + s.escNat) ∧
  (s.dfPhase = .fin → s.dfEsc = false ∧ 46 ≤ s.dfCnt.toNat ∧ s.dfCnt.toNat ≤ 87) ∧
  (s.dfPhase = .drain → s.dfEsc = false ∧ 1 ≤ s.dfDrain.toNat ∧
    (s.dfResult = .badStart ∧ s.dfCnt.toNat + s.dfDrain.toNat = 60 ∨
      (s.dfResult = .devError ∨ s.dfResult = .badEscape ∨ s.dfResult = .badChecksum) ∧
        s.dfCnt.toNat + s.dfDrain.toNat = 47)) ∧
  (s.dfPhase ≠ .drain → s.dfDrain = 0#6) ∧
  (s.dfPhase = .info ∨ s.dfPhase = .data ∨ s.dfPhase = .chk ∨ s.dfPhase = .fin → s.dfResult = .none) ∧
  (s.dfResult = .ok → s.rdValid = true)

/-- The health registers (R41) once they exist, and what a running recovery implies (R42, R180). -/
abbrev State.HtInv (s : State) : Prop :=
  (s.htValid = true → (s.htQualityFlag = false ↔ 5 ≤ s.htBadStreak.toNat) ∧ 1 ≤ s.htGoodCount.toNat) ∧
  (s.rcState ≠ .idle → s.htValid = true) ∧
  (s.rcState = .cleanWait → Config.params.hasClean = true)

/-- The legal states: the frame buffer in canonical form and both groups of registers within their invariants. -/
abbrev State.Inv (s : State) : Prop := s.buf.wf = true ∧ s.DfInv ∧ s.HtInv

/-- A step that does not stop the model. -/
def Safe (o : Out) : Prop := ∃ s, o = .next s

/-! ## What the checksum register covers -/

/-- The first `n` bytes of the frame buffer, in wire order. -/
def Memory.bytes (m : Memory) (n : Nat) : List Byte := (List.range n).map m.read

/-- `DF.sum` is the sum of the info bytes 1 to 4 and of the payload bytes taken so far (R29, R140), and a frame whose
device state is not zero gets no further than the info block (R137). -/
abbrev State.SumInv (s : State) : Prop :=
  (s.dfPhase = .info → s.dfSum = sum8 ((s.dfInfo.toList.take s.dfIdx.toNat).drop 1)) ∧
  (s.dfPhase = .data → s.dfSum = sum8 (s.dfInfo.toList.drop 1 ++ s.buf.bytes s.dfIdx.toNat)) ∧
  (s.dfPhase = .chk ∨ s.dfPhase = .fin → s.dfSum = sum8 (s.dfInfo.toList.drop 1 ++ s.buf.bytes bufCells)) ∧
  (s.dfPhase = .data ∨ s.dfPhase = .chk ∨ s.dfPhase = .fin → s.dfInfo[3] = 0x00#8)

/-! ## Registers that hold a value -/

/-- Two states agree on every register that holds a value a command may rely on (R49, U4 to U6). Left out are: the
Reading while `DF.rd_valid` is 0, the health registers while `HT.valid` is 0, `RC.t0` in IDLE, and the info bytes
and buffer cells that the running attempt has not written. -/
structure State.Agree (s t : State) : Prop where
  s8Acc : s.s8Acc = t.s8Acc
  c16Acc : s.c16Acc = t.c16Acc
  c8Acc : s.c8Acc = t.c8Acc
  dfPhase : s.dfPhase = t.dfPhase
  dfIdx : s.dfIdx = t.dfIdx
  dfEsc : s.dfEsc = t.dfEsc
  dfCnt : s.dfCnt = t.dfCnt
  dfSum : s.dfSum = t.dfSum
  dfDrain : s.dfDrain = t.dfDrain
  dfResult : s.dfResult = t.dfResult
  dfInfo : s.dfPhase = .info → ∀ k, (h : k < 5) → k < s.dfIdx.toNat → s.dfInfo[k] = t.dfInfo[k]
  bufData : s.dfPhase = .data → ∀ k, k < s.dfIdx.toNat → s.buf.read k = t.buf.read k
  bufFull : s.dfPhase = .chk ∨ s.dfPhase = .fin → ∀ k, k < bufCells → s.buf.read k = t.buf.read k
  rdValid : s.rdValid = t.rdValid
  rd : s.rdValid = true → s.rd = t.rd
  htValid : s.htValid = t.htValid
  htGoodCount : s.htValid = true → s.htGoodCount = t.htGoodCount
  htBadStreak : s.htValid = true → s.htBadStreak = t.htBadStreak
  htLastGood : s.htValid = true → s.htLastGood = t.htLastGood
  htQualityFlag : s.htValid = true → s.htQualityFlag = t.htQualityFlag
  htResetThreshold : s.htResetThreshold = t.htResetThreshold
  rcState : s.rcState = t.rcState
  rcT0 : s.rcState ≠ .idle → s.rcT0 = t.rcT0
  sysFault : s.sysFault = t.sysFault
  cmdIn : s.cmdIn = t.cmdIn
  resp : s.resp = t.resp
  events : s.events = t.events

/-- Two outcomes agree: both go on in agreeing states, or both stop for the same reason. -/
def AgreeOut : Out → Out → Prop
  | .next s, .next t => s.Agree t
  | .fault r, .fault r' => r = r'
  | .refused r, .refused r' => r = r'
  | _, _ => False

/-! ## Reports since initialisation -/

/-- A health report is accepted: the state exists and no recovery runs (R178, R180). -/
def State.acceptsReport (s : State) : Bool := s.htValid && !s.rcBusy

/-- The accepted reports since the last accepted `HT_INIT`, latest first (true: success), after `i` runs in `s`. -/
def reportsAfter (i : Instr) (s : State) (log : List Bool) : List Bool :=
  match i with
  | .htInit _ => if s.rcBusy then log else []
  | .htGood _ => if s.acceptsReport then true :: log else log
  | .htBad _ => if s.acceptsReport then false :: log else log
  | .sysStatus | .s8Init | .s8Byte _ | .s8Read | .s8Check _ | .c16Init | .c16Byte _ | .c16Read | .c8Init | .c8Byte _
  | .c8Read | .c8Check _ | .dfStart _ _ | .dfByte _ | .dfEmpty | .dfRead _ | .htSetthr _ | .htQgood | .htQflag
  | .rcTick _ => log

/-- The failures at the head of the accepted reports: those since the last accepted success. -/
def failuresSince : List Bool → Nat
  | [] => 0
  | true :: _ => 0
  | false :: log => failuresSince log + 1

/-- Once the health state exists, `HT.badStreak` counts the failures since the last accepted success, up to its limit
(R37), and the quality flag is 0 exactly when the count is 5 or more (R41 (i)). -/
abbrev State.StreakInv (s : State) (log : List Bool) : Prop :=
  s.htValid = true → s.htBadStreak.toNat = min (failuresSince log) 0xFFFF ∧
    (s.htQualityFlag = false ↔ 5 ≤ s.htBadStreak.toNat)

/-- A run of commands that keeps the accepted reports; none where the model stops. -/
def runReports : List Instr → State → List Bool → Option (State × List Bool)
  | [], s, log => some (s, log)
  | i :: is, s, log =>
    match exec i s with
    | .next s' => runReports is s' (reportsAfter i s log)
    | .fault _ => none
    | .refused _ => none

/-! ## Vocabulary of the statements -/

/-- A command that feeds a running attempt (R131). -/
def feedsAttempt : Instr → Bool
  | .dfByte _ | .dfEmpty => true
  | .sysStatus | .s8Init | .s8Byte _ | .s8Read | .s8Check _ | .c16Init | .c16Byte _ | .c16Read | .c8Init | .c8Byte _
  | .c8Read | .c8Check _ | .dfStart _ _ | .dfRead _ | .htInit _ | .htGood _ | .htBad _ | .htSetthr _ | .htQgood
  | .htQflag | .rcTick _ => false

/-- The escape table of R6 and R132: the byte after the marker, and the byte the pair stands for. -/
def escapeTable : List (Byte × Byte) :=
  [(0x5E#8, 0x7E#8), (0x5D#8, 0x7D#8), (0x31#8, 0x11#8), (0x33#8, 0x13#8)]

/-- With byte `b` taken, the stuffed part of the frame delivers `v` (R138): an ordinary byte stands for itself, a byte
after the marker for what the table says. -/
abbrev State.Delivers (s : State) (b v : Byte) : Prop :=
  s.dfEsc = false ∧ b ≠ 0x7D#8 ∧ v = b ∨ s.dfEsc = true ∧ (b, v) ∈ escapeTable

/-- The state in which an attempt that fails for `r` leaves `s`, a state whose `DF.cnt` includes the failing byte:
`47 − DF.cnt` bytes remain to be drained, none when 47 or more are consumed (R145, R146). -/
def State.afterFailure (s : State) (r : DfResult) : State :=
  let left := 47 - s.dfCnt.toNat
  { s with dfResult := r, dfEsc := false, dfDrain := BitVec.ofNat 6 left,
           dfPhase := if left = 0 then .idle else .drain,
           resp := some (if left = 0 then ⟨.fail, r.val.setWidth 32⟩ else ⟨.pending, 0#32⟩), events := [] }

/-- The state a fault with number `code` leaves (R212). -/
def State.afterFault (s : State) (code : Word) : State :=
  { s with sysFault := true, resp := some ⟨.fault, code⟩, events := [] }

/-- The state a refusal leaves (R225). -/
def State.afterBusy (s : State) : State := { s with resp := some ⟨.busy, 0#32⟩, events := [] }

/-- One shift of the CRC-16 register as arithmetic on numbers (R110). -/
def crc16ShiftNat (r : Nat) : Nat := if r % 2 = 1 then (r / 2) ^^^ 0xA001 else r / 2

/-- One shift of the CRC-8 register as arithmetic on numbers (R120). -/
def crc8ShiftNat (r : Nat) : Nat := if 128 ≤ r then (2 * r % 256) ^^^ 0x31 else 2 * r % 256

/-- `(now − t) mod 2^32` as arithmetic on numbers (R171). -/
def elapsedNat (now t : Word) : Nat := (now.toNat + 2 ^ 32 - t.toNat) % 2 ^ 32

/-- The reset values the spec gives (R240, last column of R20); the registers it leaves unspecified are not named. -/
abbrev State.HasResetValues (s : State) : Prop :=
  s.s8Acc = 0x00#8 ∧ s.c16Acc = 0xFFFF#16 ∧ s.c8Acc = 0xFF#8 ∧ s.dfPhase = .idle ∧ s.dfIdx = 0#6 ∧ s.dfEsc = false ∧
  s.dfCnt = 0#7 ∧ s.dfDrain = 0#6 ∧ s.dfSum = 0x00#8 ∧ s.dfResult = .none ∧ s.rdValid = false ∧ s.htValid = false ∧
  s.htResetThreshold = 0x00124F80#32 ∧ s.rcState = .idle ∧ s.sysFault = false

/-- A command word with opcode `op` runs as `i`: where `legal` holds of its operand bits the step is `exec` of the
command, in the state with the word taken from the port; else it is the fault ILL_OPERAND, which writes `SYS.fault`
and nothing else (R81, R85, R212). -/
def RunsAs (op : Byte) (legal : Word → Prop) (i : Word → Instr) : Prop :=
  ∀ (s : State) (rest : List CommandWord) (arg : Word), s.cmdIn = (op ++ arg) :: rest →
    (legal arg → step s = exec (i arg) { s with cmdIn := rest }) ∧
    (¬ legal arg → step s = .next ({ s with cmdIn := rest }.afterFault 2#32))

/-- A command word with opcode `op` runs as `i` whatever its operand bits are (format T, R81). -/
def RunsWithAnyOperand (op : Byte) (i : Word → Instr) : Prop :=
  ∀ (s : State) (rest : List CommandWord) (arg : Word), s.cmdIn = (op ++ arg) :: rest →
    step s = exec (i arg) { s with cmdIn := rest }

end Sys2Proof.Machine
end

