-- ==== Sys2Proof/Certificates/Slice0/Obligations.lean ====
section
/-! DEFINITION. The statements for the provers. A rule cited by a statement is named in its docstring. In a record
update `{ s with … }` every register that is not named is unchanged: that is the statement's frame. -/

open Sys2Proof Sys2Proof.Machine

/-! ## The checksum units -/

/-- R101, R111, R121. -/
def Obligations.InitCommandsLoadTheStartValue : Prop :=
  RunsAs 0x10#8 (fun arg => arg = 0#32) (fun _ => .s8Init) ∧
  RunsAs 0x20#8 (fun arg => arg = 0#32) (fun _ => .c16Init) ∧
  RunsAs 0x30#8 (fun arg => arg = 0#32) (fun _ => .c8Init) ∧
  ∀ s : State,
    exec .s8Init s = .next { s with s8Acc := 0x00#8, resp := some ⟨.ok, 0#32⟩, events := [] } ∧
    exec .c16Init s = .next { s with c16Acc := 0xFFFF#16, resp := some ⟨.ok, 0#32⟩, events := [] } ∧
    exec .c8Init s = .next { s with c8Acc := 0xFF#8, resp := some ⟨.ok, 0#32⟩, events := [] }

/-- R102: the new sum, as a number, is the sum modulo 256. -/
def Obligations.S8ByteAddsModulo256 : Prop :=
  RunsAs 0x11#8 (fun arg => arg.extractLsb' 8 24 = 0#24) (fun arg => .s8Byte (arg.extractLsb' 0 8)) ∧
  ∀ (s : State) (b : Byte),
    exec (.s8Byte b) s =
      .next { s with s8Acc := BitVec.ofNat 8 ((s.s8Acc.toNat + b.toNat) % 256), resp := some ⟨.ok, 0#32⟩, events := [] }

/-- R112, with the function of R110: eight shifts of the register with the byte exclusive-ored into it, as
arithmetic on numbers. -/
def Obligations.C16ByteFoldsTheByteInEightShifts : Prop :=
  RunsAs 0x21#8 (fun arg => arg.extractLsb' 8 24 = 0#24) (fun arg => .c16Byte (arg.extractLsb' 0 8)) ∧
  ∀ (s : State) (b : Byte),
    exec (.c16Byte b) s =
      .next { s with c16Acc := BitVec.ofNat 16 (Nat.repeat crc16ShiftNat 8 (s.c16Acc.toNat ^^^ b.toNat)),
                     resp := some ⟨.ok, 0#32⟩, events := [] }

/-- R122, with the function of R120: eight shifts of the register with the byte exclusive-ored into it, as
arithmetic on numbers. -/
def Obligations.C8ByteFoldsTheByteInEightShifts : Prop :=
  RunsAs 0x31#8 (fun arg => arg.extractLsb' 8 24 = 0#24) (fun arg => .c8Byte (arg.extractLsb' 0 8)) ∧
  ∀ (s : State) (b : Byte),
    exec (.c8Byte b) s =
      .next { s with c8Acc := BitVec.ofNat 8 (Nat.repeat crc8ShiftNat 8 (s.c8Acc.toNat ^^^ b.toNat)),
                     resp := some ⟨.ok, 0#32⟩, events := [] }

/-- R103, R113, R123: `S8_READ` answers the complement of the sum, the two CRC reads answer the register. -/
def Obligations.ReadCommandsAnswerTheChecksum : Prop :=
  RunsAs 0x12#8 (fun arg => arg = 0#32) (fun _ => .s8Read) ∧
  RunsAs 0x22#8 (fun arg => arg = 0#32) (fun _ => .c16Read) ∧
  RunsAs 0x32#8 (fun arg => arg = 0#32) (fun _ => .c8Read) ∧
  ∀ s : State,
    exec .s8Read s = .next { s with resp := some ⟨.ok, BitVec.ofNat 32 (255 - s.s8Acc.toNat)⟩, events := [] } ∧
    exec .c16Read s = .next { s with resp := some ⟨.ok, BitVec.ofNat 32 s.c16Acc.toNat⟩, events := [] } ∧
    exec .c8Read s = .next { s with resp := some ⟨.ok, BitVec.ofNat 32 s.c8Acc.toNat⟩, events := [] }

/-- R104, R124 (with the equivalent test each gives): the answer is 1 exactly on a match, and nothing is folded
in. -/
def Obligations.CheckCommandsCompareWithoutFolding : Prop :=
  RunsAs 0x13#8 (fun arg => arg.extractLsb' 8 24 = 0#24) (fun arg => .s8Check (arg.extractLsb' 0 8)) ∧
  RunsAs 0x33#8 (fun arg => arg.extractLsb' 8 24 = 0#24) (fun arg => .c8Check (arg.extractLsb' 0 8)) ∧
  ∀ (s : State) (c : Byte),
    (255 - s.s8Acc.toNat = c.toNat →
      exec (.s8Check c) s = .next { s with resp := some ⟨.ok, 1#32⟩, events := [] }) ∧
    (255 - s.s8Acc.toNat ≠ c.toNat →
      exec (.s8Check c) s = .next { s with resp := some ⟨.ok, 0#32⟩, events := [] }) ∧
    (255 - s.s8Acc.toNat = c.toNat ↔ (s.s8Acc.toNat + c.toNat) % 256 = 255) ∧
    (s.c8Acc = c → exec (.c8Check c) s = .next { s with resp := some ⟨.ok, 1#32⟩, events := [] }) ∧
    (s.c8Acc ≠ c → exec (.c8Check c) s = .next { s with resp := some ⟨.ok, 0#32⟩, events := [] }) ∧
    (s.c8Acc = c ↔ crc8Step s.c8Acc c = 0x00#8)

/-- R100: after `S8_INIT` and one `S8_BYTE` per byte, the unit holds, reads and checks the checksum function of the
whole message, reduced once at the end. -/
def Obligations.S8MessageGivesTheChecksumFunction : Prop :=
  ∀ (m : List Byte) (s : State), ∃ t : State,
    runAll (s8Msg m) s = .next t ∧
    t = { s with s8Acc := t.s8Acc, resp := some ⟨.ok, 0#32⟩, events := [] } ∧
    t.s8Acc.toNat = (m.map BitVec.toNat).sum % 256 ∧
    exec .s8Read t =
      .next { t with resp := some ⟨.ok, BitVec.ofNat 32 (255 - (m.map BitVec.toNat).sum % 256)⟩ } ∧
    ∀ c : Byte, exec (.s8Check c) t =
      .next { t with resp := some ⟨.ok, if c.toNat = 255 - (m.map BitVec.toNat).sum % 256 then 1#32 else 0#32⟩ }

/-- Derived from R110 (the property 95_test_vectors.md 2.2 states): a message followed by its CRC, low byte first,
brings the register to zero. -/
def Obligations.C16MessageThenItsCrcLeavesZero : Prop :=
  ∀ (m : List Byte) (s : State), ∃ t u : State,
    runAll (c16Msg m) s = .next t ∧
    exec .c16Read t = .next { t with resp := some ⟨.ok, t.c16Acc.setWidth 32⟩ } ∧
    runAll (c16Msg (m ++ [t.c16Acc.extractLsb' 0 8, t.c16Acc.extractLsb' 8 8])) s = .next u ∧
    u = { s with c16Acc := 0x0000#16, resp := some ⟨.ok, 0#32⟩, events := [] }

/-- Derived from R120, R122 and R124: a message followed by its CRC brings the register to zero, by no other
byte. -/
def Obligations.C8MessageThenOnlyItsCrcLeavesZero : Prop :=
  ∀ (m : List Byte) (s : State) (c : Byte), ∃ t u : State,
    runAll (c8Msg m) s = .next t ∧ runAll (c8Msg (m ++ [c])) s = .next u ∧
    (u.c8Acc = 0x00#8 ↔ exec (.c8Check c) t = .next { t with resp := some ⟨.ok, 1#32⟩ })

/-! ## The deframer, command by command -/

/-- R134: the fault, then the four outcomes in the order of the tests; the request frame in all four. -/
def Obligations.DfStartFourOutcomes : Prop :=
  RunsAs 0x40#8 (fun arg => arg.extractLsb' 24 8 = 0#8)
    (fun arg => .dfStart (arg.extractLsb' 8 16) (arg.extractLsb' 0 8)) ∧
  ∀ (s : State) (avail : BitVec 16) (peek : Byte),
    let t := { s with dfCnt := 0#7, dfEsc := false, dfIdx := 0#6, dfSum := 0x00#8,
                      events := [.tx [0x7E#8, 0x00#8, 0x03#8, 0x00#8, 0xFC#8, 0x7E#8]] }
    (s.dfPhase ≠ .idle → exec (.dfStart avail peek) s = .next (s.afterFault 3#32)) ∧
    (s.dfPhase = .idle → avail = 0#16 →
      exec (.dfStart avail peek) s = .next { t with dfResult := .notReady, resp := some ⟨.fail, 2#32⟩ }) ∧
    (s.dfPhase = .idle → avail ≠ 0#16 → peek ≠ 0x7E#8 →
      exec (.dfStart avail peek) s =
        .next { t with dfResult := .badStart, dfDrain := 60#6, dfPhase := .drain, resp := some ⟨.pending, 0#32⟩ }) ∧
    (s.dfPhase = .idle → avail ≠ 0#16 → peek = 0x7E#8 → avail.toNat < 47 →
      exec (.dfStart avail peek) s = .next { t with dfResult := .notReady, resp := some ⟨.fail, 2#32⟩ }) ∧
    (s.dfPhase = .idle → peek = 0x7E#8 → 47 ≤ avail.toNat →
      exec (.dfStart avail peek) s =
        .next { t with dfResult := .none, dfPhase := .info, resp := some ⟨.pending, 0#32⟩ })

/-- R136, R137: the info bytes are stored raw, bytes 1 to 4 are summed, and the fifth byte makes the device-state
test. -/
def Obligations.DfByteTakesTheInfoBlock : Prop :=
  ∀ (s : State) (b : Byte) (h : s.dfIdx.toNat < 5), s.dfPhase = .info →
    let t := { s with dfCnt := s.dfCnt + 1#7, dfInfo := s.dfInfo.set s.dfIdx.toNat b h,
                      dfSum := if s.dfIdx.toNat = 0 then s.dfSum
                               else BitVec.ofNat 8 ((s.dfSum.toNat + b.toNat) % 256),
                      resp := some ⟨.pending, 0#32⟩, events := [] }
    (s.dfIdx.toNat < 4 → exec (.dfByte b) s = .next { t with dfIdx := s.dfIdx + 1#6 }) ∧
    (s.dfIdx.toNat = 4 → s.dfInfo[3] = 0x00#8 →
      exec (.dfByte b) s = .next { t with dfPhase := .data, dfIdx := 0#6 }) ∧
    (s.dfIdx.toNat = 4 → s.dfInfo[3] ≠ 0x00#8 → exec (.dfByte b) s = .next (t.afterFailure .devError)) ∧
    (s.dfIdx.toNat = 4 → s.dfInfo[3] ≠ 0x00#8 → s.dfCnt = 4#7 →
      ∃ u, exec (.dfByte b) s = .next u ∧ u.dfPhase = .drain ∧ u.dfDrain = 42#6)

/-- Derived from R138 and R132: the escape marker, and a byte after it that is not in the table; what any other byte
delivers is in `DfByteStoresThePayload` and `DfByteComparesTheChecksum`. -/
def Obligations.DfByteEscapes : Prop :=
  ∀ (s : State) (b : Byte), s.dfPhase = .data ∨ s.dfPhase = .chk →
    (s.dfEsc = false → b = 0x7D#8 →
      exec (.dfByte b) s =
        .next { s with dfCnt := s.dfCnt + 1#7, dfEsc := true, resp := some ⟨.pending, 0#32⟩, events := [] }) ∧
    (s.dfEsc = true → (∀ v, (b, v) ∉ escapeTable) →
      exec (.dfByte b) s = .next ({ s with dfCnt := s.dfCnt + 1#7 }.afterFailure .badEscape))

/-- R139 (and R138 for what is delivered): the delivered value goes to cell `DF.idx` of the buffer and into the sum;
every other cell reads as before. -/
def Obligations.DfByteStoresThePayload : Prop :=
  ∀ (s : State) (b v : Byte), s.dfPhase = .data → s.dfIdx.toNat ≤ 39 → s.buf.wf = true → s.Delivers b v →
    ∃ t : State, exec (.dfByte b) s = .next t ∧
      t.buf.read s.dfIdx.toNat = v ∧ (∀ a, a ≠ s.dfIdx.toNat → t.buf.read a = s.buf.read a) ∧ t.buf.wf = true ∧
      t = { s with dfCnt := s.dfCnt + 1#7, dfEsc := false, buf := t.buf,
                   dfSum := BitVec.ofNat 8 ((s.dfSum.toNat + v.toNat) % 256),
                   dfPhase := if s.dfIdx.toNat = 39 then .chk else .data,
                   dfIdx := if s.dfIdx.toNat = 39 then s.dfIdx else s.dfIdx + 1#6,
                   resp := some ⟨.pending, 0#32⟩, events := [] }

/-- R141 (and R138 for what is delivered): the delivered value is compared with the complement of the sum and is not
added to it. -/
def Obligations.DfByteComparesTheChecksum : Prop :=
  ∀ (s : State) (b v : Byte), s.dfPhase = .chk → s.Delivers b v →
    (v.toNat = 255 - s.dfSum.toNat →
      exec (.dfByte b) s =
        .next { s with dfCnt := s.dfCnt + 1#7, dfEsc := false, dfPhase := .fin, resp := some ⟨.pending, 0#32⟩,
                       events := [] }) ∧
    (v.toNat ≠ 255 - s.dfSum.toNat →
      exec (.dfByte b) s = .next ({ s with dfCnt := s.dfCnt + 1#7 }.afterFailure .badChecksum))

/-- R142, R143, R64: the end byte; on success the ten words of the Reading, each with the first of its four bytes at
the top. -/
def Obligations.DfByteEndsTheFrame : Prop :=
  ∀ (s : State) (b : Byte), s.dfPhase = .fin →
    (b = 0x7E#8 → ∃ t : State, exec (.dfByte b) s = .next t ∧
      (∀ i, (h : i < 10) → t.rd[i] =
        s.buf.read (4 * i) ++ s.buf.read (4 * i + 1) ++ s.buf.read (4 * i + 2) ++ s.buf.read (4 * i + 3)) ∧
      t = { s with dfCnt := s.dfCnt + 1#7, rd := t.rd, rdValid := true, dfResult := .ok, dfPhase := .idle,
                   resp := some ⟨.done, 0#32⟩, events := [] }) ∧
    (b ≠ 0x7E#8 → exec (.dfByte b) s = .next ({ s with dfCnt := s.dfCnt + 1#7 }.afterFailure .badEnd)) ∧
    (b ≠ 0x7E#8 → 46 ≤ s.dfCnt.toNat → s.dfCnt.toNat < 127 →
      ∃ t, exec (.dfByte b) s = .next t ∧ t.dfPhase = .idle ∧ t.dfDrain = 0#6 ∧ t.resp = some ⟨.fail, 7#32⟩)

/-- R144: a drained byte changes nothing but the two counts, and the last one ends the attempt with the reason it
had. -/
def Obligations.DfByteDrains : Prop :=
  ∀ (s : State) (b : Byte), s.dfPhase = .drain → 1 ≤ s.dfDrain.toNat →
    let t := { s with dfCnt := s.dfCnt + 1#7, dfDrain := BitVec.ofNat 6 (s.dfDrain.toNat - 1), events := [] }
    (s.dfDrain.toNat = 1 →
      exec (.dfByte b) s = .next { t with dfPhase := .idle, resp := some ⟨.fail, s.dfResult.val.setWidth 32⟩ }) ∧
    (1 < s.dfDrain.toNat → exec (.dfByte b) s = .next { t with resp := some ⟨.pending, 0#32⟩ })

/-- R147: in DRAIN the reason stands; in the other phases of an attempt it is UNDERRUN. -/
def Obligations.DfEmptyEndsTheAttempt : Prop :=
  RunsAs 0x42#8 (fun arg => arg = 0#32) (fun _ => .dfEmpty) ∧
  ∀ s : State,
    (s.dfPhase = .idle → exec .dfEmpty s = .next (s.afterFault 3#32)) ∧
    (s.dfPhase = .drain →
      exec .dfEmpty s = .next { s with dfDrain := 0#6, dfPhase := .idle,
                                       resp := some ⟨.fail, s.dfResult.val.setWidth 32⟩, events := [] }) ∧
    (s.dfPhase ≠ .idle → s.dfPhase ≠ .drain →
      exec .dfEmpty s = .next { s with dfResult := .underrun, dfEsc := false, dfPhase := .idle,
                                       resp := some ⟨.fail, 8#32⟩, events := [] })

/-- R150: one word of the Reading, in any phase; the index fault comes before the missing Reading. -/
def Obligations.DfReadAnswersOneWord : Prop :=
  RunsAs 0x43#8 (fun arg => arg.extractLsb' 4 28 = 0#28 ∧ (arg.extractLsb' 0 4).toNat ≤ 9)
    (fun arg => .dfRead (arg.extractLsb' 0 4)) ∧
  ∀ (s : State) (i : BitVec 4),
    (9 < i.toNat → exec (.dfRead i) s = .next (s.afterFault 2#32)) ∧
    (i.toNat ≤ 9 → s.rdValid = false → exec (.dfRead i) s = .next (s.afterFault 5#32)) ∧
    ((h : i.toNat < 10) → s.rdValid = true →
      exec (.dfRead i) s = .next { s with resp := some ⟨.ok, s.rd[i.toNat]⟩, events := [] })

/-- Derived from R135: the words of `DF_BYTE`, its fault outside an attempt, and in an attempt the count one higher
and one of the three answers of an attempt. What each phase does is in the statements above. -/
def Obligations.DfByteCountsTheByte : Prop :=
  RunsAs 0x41#8 (fun arg => arg.extractLsb' 8 24 = 0#24) (fun arg => .dfByte (arg.extractLsb' 0 8)) ∧
  ∀ (s : State) (b : Byte),
    (s.dfPhase = .idle → exec (.dfByte b) s = .next (s.afterFault 3#32)) ∧
    (s.dfPhase ≠ .idle → s.DfInv → ∃ t r, exec (.dfByte b) s = .next t ∧ t.resp = some r ∧
      t.dfCnt.toNat = s.dfCnt.toNat + 1 ∧ (r.code = .pending ∨ r.code = .fail ∨ r.code = .done))

/-! ## The deframer over whole attempts -/

/-- Derived from R130: a running attempt, fed with any bytes and any `DF_EMPTY`, answers PENDING until one command
ends it, and that is one of the next 89 commands. -/
def Obligations.AttemptEndsWithin89Commands : Prop :=
  ∀ (s : State) (is : List Instr), s.DfInv → s.dfPhase ≠ .idle → (∀ i ∈ is, feedsAttempt i = true) → is.length = 89 →
    ∃ k t r, 1 ≤ k ∧ k ≤ 89 ∧ runAll (is.take k) s = .next t ∧ t.dfPhase = .idle ∧ t.resp = some r ∧
      (r = ⟨.done, 0#32⟩ ∨ r = ⟨.fail, t.dfResult.val.setWidth 32⟩ ∧ t.dfResult ≠ .none ∧ t.dfResult ≠ .ok) ∧
      ∀ j, 1 ≤ j → j < k →
        ∃ u, runAll (is.take j) s = .next u ∧ u.resp = some ⟨.pending, 0#32⟩ ∧ u.dfPhase ≠ .idle

/-- R133: the frame built from any legal info block and any 40-byte payload is accepted, the payload arrives
unchanged in the buffer and in the Reading, and exactly the bytes of the frame are consumed, whatever follows
them. -/
def Obligations.StuffedFrameRoundTrip : Prop :=
  ∀ (s : State) (a1 a2 a4 : Byte) (p rest : List Byte), s.dfPhase = .idle → s.buf.wf = true → p.length = 40 →
    ∃ t : State, attempt (frame [a1, a2, 0x00#8, a4] p ++ rest) s = (.next t, (frame [a1, a2, 0x00#8, a4] p).length) ∧
      t.resp = some ⟨.done, 0#32⟩ ∧ t.dfPhase = .idle ∧ t.dfResult = .ok ∧ t.rdValid = true ∧
      t.buf.bytes 40 = p ∧
      (∀ i, (h : i < 10) → t.rd[i] =
        p.getD (4 * i) 0 ++ p.getD (4 * i + 1) 0 ++ p.getD (4 * i + 2) 0 ++ p.getD (4 * i + 3) 0)

/-- R155: in a good frame without escapes, one payload byte changed to any value but 0x7D makes the attempt end in
BAD_CHECKSUM; changed to 0x7D it makes it fail too, or end in DONE at another frame length. Bytes may follow. -/
def Obligations.SingleByteDamageNeverEndsInDoneAtTheSameLength : Prop :=
  ∀ (s : State) (a1 a2 a4 c v : Byte) (p rest : List Byte) (k : Nat), s.dfPhase = .idle → p.length = 40 → k < 40 →
    stuff (p ++ [frameChecksum [a1, a2, 0x00#8, a4] p]) = p ++ [c] → v ≠ p.getD k 0 →
    ∃ (t : State) (n : Nat),
      attempt ([0x7E#8, a1, a2, 0x00#8, a4] ++ p.set k v ++ [c, 0x7E#8] ++ rest) s = (.next t, n) ∧ t.dfPhase = .idle ∧
      (v ≠ 0x7D#8 → n = 47 ∧ t.resp = some ⟨.fail, 6#32⟩ ∧ t.dfResult = .badChecksum ∧ t.rd = s.rd ∧
        t.rdValid = s.rdValid) ∧
      (v = 0x7D#8 → t.dfResult ∈ [.badEscape, .badChecksum, .badEnd, .underrun] ∨ t.dfResult = .ok ∧ n ≠ 47)

/-- Derived from R134, R144, R147 and R153: a Channel that starts with another byte than 0x7E costs the attempt
min(L, 60) of its L bytes. -/
def Obligations.BadStartDrainsUpTo60Bytes : Prop :=
  ∀ (s : State) (c : Byte) (ch : List Byte), s.dfPhase = .idle → c ≠ 0x7E#8 →
    ∃ t : State, attempt (c :: ch) s = (.next t, min (ch.length + 1) 60) ∧
      t.resp = some ⟨.fail, 3#32⟩ ∧ t.dfPhase = .idle ∧ t.rd = s.rd ∧ t.rdValid = s.rdValid ∧ t.buf = s.buf

/-- Derived from R29 and R140: every step keeps the frame buffer canonical, and keeps it true that `DF.sum` is the sum
of info bytes 1 to 4 and of the payload taken so far. -/
def Obligations.EveryStepKeepsTheChecksumCoverage : Prop :=
  ∀ s t : State, s.buf.wf = true → s.SumInv → step s = .next t → t.buf.wf = true ∧ t.SumInv

/-- R34: the Reading changes in one kind of step only, the `DF_BYTE` answered DONE, all ten words at once; its valid
bit is 0 after reset, is set by the first success and stays. -/
def Obligations.ReadingChangesOnlyWithDone : Prop :=
  State.reset.rdValid = false ∧
  ∀ s t : State, step s = .next t →
    (t.rd ≠ s.rd ∨ t.rdValid ≠ s.rdValid → ∃ v, t.resp = some ⟨.done, v⟩) ∧
    ((∃ v, t.resp = some ⟨.done, v⟩) → t.rdValid = true ∧ (∃ b rest, s.cmdIn = encode (.dfByte b) :: rest) ∧
      ∀ i, (h : i < 10) → t.rd[i] =
        s.buf.read (4 * i) ++ s.buf.read (4 * i + 1) ++ s.buf.read (4 * i + 2) ++ s.buf.read (4 * i + 3)) ∧
    (s.rdValid = true → t.rdValid = true)

/-! ## The health tracker -/

/-- R172. -/
def Obligations.HtInitCreatesTheHealthState : Prop :=
  RunsWithAnyOperand 0x50#8 (fun arg => .htInit arg) ∧
  ∀ (s : State) (now : Word),
    (s.rcState ≠ .idle → exec (.htInit now) s = .next s.afterBusy) ∧
    (s.rcState = .idle →
      exec (.htInit now) s =
        .next { s with htValid := true, htGoodCount := 1#32, htBadStreak := 0#16, htLastGood := now,
                       htQualityFlag := true, resp := some ⟨.ok, 0#32⟩, events := [] })

/-- R173: after the update the age is 0, so the check fires only with a threshold of 0. -/
def Obligations.HtGoodCountsASuccess : Prop :=
  RunsWithAnyOperand 0x51#8 (fun arg => .htGood arg) ∧
  ∀ (s : State) (now : Word),
    let t := { s with htGoodCount := BitVec.ofNat 32 (min (s.htGoodCount.toNat + 1) 0xFFFFFFFF), htBadStreak := 0#16,
                      htLastGood := now, htQualityFlag := true }
    (s.htValid = false → exec (.htGood now) s = .next (s.afterFault 4#32)) ∧
    (s.htValid = true → s.rcState ≠ .idle → exec (.htGood now) s = .next s.afterBusy) ∧
    (s.htValid = true → s.rcState = .idle → s.htResetThreshold ≠ 0#32 →
      exec (.htGood now) s = .next { t with resp := some ⟨.ok, 0#32⟩, events := [] }) ∧
    (s.htValid = true → s.rcState = .idle → s.htResetThreshold = 0#32 →
      exec (.htGood now) s =
        .next { t with rcState := .offWait, rcT0 := now, resp := some ⟨.ok, 1#32⟩, events := [.trigger, .pwrOff] })

/-- R174, with the age check of R175: the failure is counted, then an age of the threshold or more fires the trigger
whatever the streak is. -/
def Obligations.HtBadCountsAFailureAndChecksTheAge : Prop :=
  RunsWithAnyOperand 0x52#8 (fun arg => .htBad arg) ∧
  ∀ (s : State) (now : Word),
    let streak := min (s.htBadStreak.toNat + 1) 0xFFFF
    let t := { s with htBadStreak := BitVec.ofNat 16 streak,
                      htQualityFlag := if 5 ≤ streak then false else s.htQualityFlag }
    (s.htValid = false → exec (.htBad now) s = .next (s.afterFault 4#32)) ∧
    (s.htValid = true → s.rcState ≠ .idle → exec (.htBad now) s = .next s.afterBusy) ∧
    (s.htValid = true → s.rcState = .idle → elapsedNat now s.htLastGood < s.htResetThreshold.toNat →
      exec (.htBad now) s = .next { t with resp := some ⟨.ok, 0#32⟩, events := [] }) ∧
    (s.htValid = true → s.rcState = .idle → s.htResetThreshold.toNat ≤ elapsedNat now s.htLastGood →
      exec (.htBad now) s =
        .next { t with rcState := .offWait, rcT0 := now, htLastGood := now, resp := some ⟨.ok, 1#32⟩,
                       events := [.trigger, .pwrOff] })

/-- R179: accepted in every state, and no age check is made. -/
def Obligations.HtSetthrWritesOnlyTheThreshold : Prop :=
  RunsWithAnyOperand 0x53#8 (fun arg => .htSetthr arg) ∧
  ∀ (s : State) (thr : Word),
    exec (.htSetthr thr) s = .next { s with htResetThreshold := thr, resp := some ⟨.ok, 0#32⟩, events := [] }

/-- R176, R177: the two queries, also while a recovery runs. -/
def Obligations.HealthQueriesAnswerTheirRegister : Prop :=
  RunsAs 0x54#8 (fun arg => arg = 0#32) (fun _ => .htQgood) ∧
  RunsAs 0x55#8 (fun arg => arg = 0#32) (fun _ => .htQflag) ∧
  ∀ s : State,
    (s.htValid = false →
      exec .htQgood s = .next (s.afterFault 4#32) ∧ exec .htQflag s = .next (s.afterFault 4#32)) ∧
    (s.htValid = true →
      exec .htQgood s = .next { s with resp := some ⟨.ok, s.htGoodCount⟩, events := [] } ∧
      exec .htQflag s =
        .next { s with resp := some ⟨.ok, if s.htQualityFlag = true then 1#32 else 0#32⟩, events := [] })

/-- Derived from R36 and R41 (ii): no command but `HT_INIT` lowers the good count, and only an accepted `HT_GOOD`
raises it. -/
def Obligations.GoodCountOnlyIncreases : Prop :=
  ∀ (i : Instr) (s t : State), exec i s = .next t → (∀ now, i ≠ .htInit now) →
    s.htGoodCount.toNat ≤ t.htGoodCount.toNat ∧
    (t.htGoodCount ≠ s.htGoodCount →
      (∃ now, i = .htGood now) ∧ s.acceptsReport = true ∧ t.htGoodCount.toNat = s.htGoodCount.toNat + 1)

/-- Derived from R182 (3): after an accepted `HT_INIT` and any commands, the quality flag is 0 exactly when the last
five accepted reports exist and are all failures. -/
def Obligations.QualityFlagFalseIffLastFiveReportsFailed : Prop :=
  ∀ (now : Word) (s0 s t : State) (is : List Instr) (log : List Bool),
    s0.rcState = .idle → exec (.htInit now) s0 = .next s → runReports is s [] = some (t, log) →
    (t.htQualityFlag = false ↔ 5 ≤ log.length ∧ ∀ r ∈ log.take 5, r = false)

/-! ## The recovery sequencer -/

/-- R193 to R197: at most one transition per tick, each delay a lower bound, the answer the state after the step.
The instance's parameters are any that R194 allows, so the cases are stated for every value of them. -/
def Obligations.RcTickMakesAtMostOneTransition : Prop :=
  RunsWithAnyOperand 0x60#8 (fun arg => .rcTick arg) ∧
  2000 ≤ Config.params.tOff.toNat ∧ Config.params.tOff.toNat ≤ 20000 ∧
  (∀ (s : State) (now : Word),
    exec (.rcTick now) s = s.rcTick Config.params now ∧ ∃ t, exec (.rcTick now) s = .next t) ∧
  ∀ (p : Config.Params) (s : State) (now : Word),
    let waited := elapsedNat now s.rcT0
    (s.rcState = .idle → s.rcTick p now = .next { s with resp := some ⟨.ok, 0#32⟩, events := [] }) ∧
    (s.rcState = .offWait → waited < p.tOff.toNat →
      s.rcTick p now = .next { s with resp := some ⟨.ok, 1#32⟩, events := [] }) ∧
    (s.rcState = .offWait → p.tOff.toNat ≤ waited →
      s.rcTick p now =
        .next { s with rcState := .onWait, rcT0 := now, resp := some ⟨.ok, 2#32⟩, events := [.pwrOn] }) ∧
    (s.rcState = .onWait → waited < p.tOn.toNat →
      s.rcTick p now = .next { s with resp := some ⟨.ok, 2#32⟩, events := [] }) ∧
    (s.rcState = .onWait → p.tOn.toNat ≤ waited → p.hasClean = true →
      s.rcTick p now =
        .next { s with rcState := .cleanWait, rcT0 := now, resp := some ⟨.ok, 3#32⟩, events := [.fanClean] }) ∧
    (s.rcState = .onWait → p.tOn.toNat ≤ waited → p.hasClean = false →
      s.rcTick p now = .next { s with rcState := .idle, htLastGood := now, resp := some ⟨.ok, 0#32⟩, events := [] }) ∧
    (s.rcState = .cleanWait → waited < p.tClean.toNat →
      s.rcTick p now = .next { s with resp := some ⟨.ok, 3#32⟩, events := [] }) ∧
    (s.rcState = .cleanWait → p.tClean.toNat ≤ waited →
      s.rcTick p now = .next { s with rcState := .idle, htLastGood := now, resp := some ⟨.ok, 0#32⟩, events := [] })

/-- R191: the age trigger is the one way out of IDLE, and only `RC_TICK` moves a running sequence. -/
def Obligations.OnlyTheAgeTriggerStartsARecovery : Prop :=
  ∀ (i : Instr) (s t : State), exec i s = .next t →
    (s.rcState = .idle → t.rcState ≠ .idle →
      ∃ now, (i = .htGood now ∨ i = .htBad now) ∧ s.htValid = true ∧ t.rcState = .offWait ∧ t.rcT0 = now ∧
        t.htLastGood = now ∧ t.events = [.trigger, .pwrOff] ∧ t.resp = some ⟨.ok, 1#32⟩ ∧
        (i = .htGood now → s.htResetThreshold = 0#32) ∧
        (i = .htBad now → s.htResetThreshold.toNat ≤ elapsedNat now s.htLastGood)) ∧
    (s.rcState ≠ .idle → t.rcState ≠ s.rcState → ∃ now, i = .rcTick now) ∧
    (.trigger ∈ t.events → s.rcState = .idle ∧ t.rcState = .offWait)

/-- Derived from R190, R192 and R194 to R196, for every value of the instance's parameters: a failure report that
fires, then ticks spaced by the delays, give the events of the sequence once each in order, and the reports in
between are refused. -/
def Obligations.RecoveryGivesItsEventsInOrder : Prop :=
  ∀ (p : Config.Params) (s : State) (n0 n1 n2 n3 n : Word), s.htValid = true → s.rcState = .idle →
    s.htResetThreshold.toNat ≤ elapsedNat n0 s.htLastGood → p.tOff.toNat ≤ elapsedNat n1 n0 →
    p.tOn.toNat ≤ elapsedNat n2 n1 → p.tClean.toNat ≤ elapsedNat n3 n2 →
    ∃ s1 s2 s3 : State, exec (.htBad n0) s = .next s1 ∧ s1.events = [.trigger, .pwrOff] ∧
      exec (.htGood n) s1 = .next s1.afterBusy ∧ exec (.htBad n) s1 = .next s1.afterBusy ∧
      s1.rcTick p n1 = .next s2 ∧ s2.events = [.pwrOn] ∧
      exec (.htGood n) s2 = .next s2.afterBusy ∧ exec (.htBad n) s2 = .next s2.afterBusy ∧
      s2.rcTick p n2 = .next s3 ∧
      (p.hasClean = true → s3.events = [.fanClean] ∧
        exec (.htGood n) s3 = .next s3.afterBusy ∧ exec (.htBad n) s3 = .next s3.afterBusy ∧
        ∃ s4, s3.rcTick p n3 = .next s4 ∧ s4.events = [] ∧ s4.rcState = .idle ∧ s4.htLastGood = n3 ∧
          s4.htQualityFlag = s1.htQualityFlag ∧ s4.htBadStreak = s1.htBadStreak ∧ s4.htGoodCount = s.htGoodCount) ∧
      (p.hasClean = false → s3.events = [] ∧ s3.rcState = .idle ∧ s3.htLastGood = n2 ∧
          s3.htQualityFlag = s1.htQualityFlag ∧ s3.htBadStreak = s1.htBadStreak ∧ s3.htGoodCount = s.htGoodCount)

/-! ## The status command -/

/-- R205, R206, with the encodings of R25, R31 and R42. -/
def Obligations.SysStatusShowsTheStatusWord : Prop :=
  RunsAs 0x00#8 (fun arg => arg = 0#32) (fun _ => .sysStatus) ∧
  ∀ s : State, ∃ w : Word,
    exec .sysStatus s = .next { s with resp := some ⟨.ok, w⟩, events := [] } ∧
    w.getLsbD 0 = s.sysFault ∧ w.getLsbD 1 = s.htValid ∧ w.getLsbD 2 = s.rdValid ∧
    w.getLsbD 3 = !(s.rcState == .idle) ∧
    (w.extractLsb' 4 3).toNat =
      (match s.dfPhase with | .idle => 0 | .info => 1 | .data => 2 | .chk => 3 | .fin => 4 | .drain => 5) ∧
    w.getLsbD 7 = false ∧
    (w.extractLsb' 8 4).toNat =
      (match s.dfResult with
       | .none => 0 | .ok => 1 | .notReady => 2 | .badStart => 3 | .devError => 4 | .badEscape => 5
       | .badChecksum => 6 | .badEnd => 7 | .underrun => 8) ∧
    (w.extractLsb' 12 2).toNat = (match s.rcState with | .idle => 0 | .offWait => 1 | .onWait => 2 | .cleanWait => 3) ∧
    w.extractLsb' 14 18 = 0#18

/-! ## Encoding, decoding and the step -/

/-- Decode and encode agree on every well-formed command, with every operand at every value. -/
def Obligations.DecodeOfEncodeIsTheInstruction : Prop :=
  ∀ i : Instr, i.wellFormed = true → decode (encode i) = .ok i

/-- The other direction: a word has one meaning, and that meaning's word is the word. -/
def Obligations.EncodeOfDecodeIsTheWord : Prop :=
  ∀ (w : CommandWord) (i : Instr), decode w = .ok i → i.wellFormed = true ∧ encode i = w

/-- Derived from R91 and R85: decoding follows the table. A word selects at most one row; it decodes to the row's
command, except `DF_READ` with an index above 9; a word that selects no row is ILL_OPCODE when its opcode is that of
no row, and ILL_OPERAND otherwise. -/
def Obligations.DecodeFollowsTheTable : Prop :=
  ∀ w : CommandWord,
    (∀ r ∈ opcodeTable, ∀ r' ∈ opcodeTable, r.selects w = true → r'.selects w = true → r = r') ∧
    (∀ r ∈ opcodeTable, r.selects w = true →
      (∃ i : Instr, decode w = .ok i ∧ i.mnemonic = r.mnemonic ∧ i.wellFormed = true) ∨
      (r.mnemonic = "DF_READ" ∧ 9 < (w.extractLsb' 0 4).toNat ∧ decode w = .error .illOperand)) ∧
    ((∀ r ∈ opcodeTable, r.selects w = false) →
      ((∀ r ∈ opcodeTable, r.pattern.extractLsb' 32 8 ≠ w.extractLsb' 32 8) → decode w = .error .illOpcode) ∧
      ((∃ r ∈ opcodeTable, r.pattern.extractLsb' 32 8 = w.extractLsb' 32 8) → decode w = .error .illOperand))

/-- One word of each family, written from R80 to R83, decodes to the command it stands for. -/
def Obligations.SampleWordsDecodeAsTheSpecWritesThem : Prop :=
  decode 0x0000000000#40 = .ok .sysStatus ∧
  decode 0x13000000FC#40 = .ok (.s8Check 0xFC#8) ∧
  decode 0x2100000031#40 = .ok (.c16Byte 0x31#8) ∧
  decode 0x33000000B0#40 = .ok (.c8Check 0xB0#8) ∧
  decode 0x4000002F7E#40 = .ok (.dfStart 47#16 0x7E#8) ∧
  decode 0x4300000009#40 = .ok (.dfRead 9#4) ∧
  decode 0x5200125368#40 = .ok (.htBad 1201000#32) ∧
  decode 0x6000125B38#40 = .ok (.rcTick 1203000#32) ∧
  decode 0x430000000A#40 = .error .illOperand ∧
  decode 0x2300000000#40 = .error .illOpcode

/-- Derived from R5 and R88, on the model's command port (log entry 1): a step takes the next command word from the
port and runs the command it decodes to. -/
def Obligations.StepRunsTheDecodedCommand : Prop :=
  ∀ (s : State) (w : CommandWord) (rest : List CommandWord) (i : Instr), s.cmdIn = w :: rest → decode w = .ok i →
    step s = exec i { s with cmdIn := rest }

/-- R85: an illegal command word is answered with its fault and has no other effect. -/
def Obligations.StepAnswersIllegalWordsWithAFault : Prop :=
  ∀ (s : State) (w : CommandWord) (rest : List CommandWord), s.cmdIn = w :: rest →
    ((∀ r ∈ opcodeTable, r.pattern.extractLsb' 32 8 ≠ w.extractLsb' 32 8) →
      step s = .next ({ s with cmdIn := rest }.afterFault 1#32)) ∧
    ((∃ r ∈ opcodeTable, r.pattern.extractLsb' 32 8 = w.extractLsb' 32 8) →
      ((∀ r ∈ opcodeTable, r.selects w = false) ∨ w.extractLsb' 32 8 = 0x43#8 ∧ 9 < (w.extractLsb' 0 4).toNat) →
      step s = .next ({ s with cmdIn := rest }.afterFault 2#32))

/-! ## The whole block -/

/-- Derived from the ranges the registers have (R25 to R31, R41, U15) are kept by every step. -/
def Obligations.EveryStepKeepsTheLegalStates : Prop :=
  ∀ s t : State, s.Inv → step s = .next t → t.Inv

/-- Derived from R240: the state after reset is legal, and its checksum coverage and its count of failures
hold. -/
def Obligations.ResetStateIsLegal : Prop :=
  State.reset.Inv ∧ State.reset.SumInv ∧ State.reset.StreakInv []

/-- R240: the reset values the spec gives, and the level output `rc_busy` after reset. -/
def Obligations.ResetValuesAsTheSpecGivesThem : Prop :=
  State.reset.HasResetValues ∧ State.reset.rcBusy = false

/-- The reset input in the model (log entry 10): from every state, whatever attempt or recovery runs, the registers
take their reset values with no response and no event, and the host's words stay. -/
def Obligations.ResetInputAbandonsWhatRuns : Prop :=
  ∀ s : State, s.applyReset.HasResetValues ∧ s.applyReset.Inv ∧ s.applyReset.events = [] ∧ s.applyReset.resp = none ∧
    s.applyReset.cmdIn = s.cmdIn

/-- R226: in every legal state every command and every command word is answered. -/
def Obligations.NothingIsFatal : Prop :=
  ∀ s : State, s.Inv →
    (∀ i : Instr, ∃ t r, exec i s = .next t ∧ t.resp = some r) ∧
    (∀ w rest, s.cmdIn = w :: rest → ∃ t r, step s = .next t ∧ t.resp = some r ∧ t.cmdIn = rest)

/-- R212, R213: a step answered FAULT has written `SYS.fault` and nothing else, has no event, and the number names
its cause. -/
def Obligations.FaultsWriteOnlySysFault : Prop :=
  ∀ (s t : State) (w : CommandWord) (rest : List CommandWord) (code : Word), s.cmdIn = w :: rest → step s = .next t →
    t.resp = some ⟨.fault, code⟩ →
    t = { s with cmdIn := rest }.afterFault code ∧
    ((code = 1#32 ∧ ∀ r ∈ opcodeTable, r.pattern.extractLsb' 32 8 ≠ w.extractLsb' 32 8) ∨
     (code = 2#32 ∧ (∃ r ∈ opcodeTable, r.pattern.extractLsb' 32 8 = w.extractLsb' 32 8) ∧
        ((∀ r ∈ opcodeTable, r.selects w = false) ∨
          w.extractLsb' 32 8 = 0x43#8 ∧ 9 < (w.extractLsb' 0 4).toNat)) ∨
     ∃ i, decode w = .ok i ∧
      ((code = 3#32 ∧ (s.dfPhase ≠ .idle ∧ (∃ a p, i = .dfStart a p) ∨
          s.dfPhase = .idle ∧ (i = .dfEmpty ∨ ∃ b, i = .dfByte b))) ∨
       (code = 4#32 ∧ s.htValid = false ∧
          ((∃ n, i = .htGood n) ∨ (∃ n, i = .htBad n) ∨ i = .htQgood ∨ i = .htQflag)) ∨
       (code = 5#32 ∧ s.rdValid = false ∧ ∃ k, i = .dfRead k ∧ k.toNat ≤ 9)))

/-- R44: `SYS.fault` is set by every step that raises a fault, by no other, and no step clears it. -/
def Obligations.SysFaultIsSticky : Prop :=
  State.reset.sysFault = false ∧
  ∀ s t : State, step s = .next t →
    (t.sysFault = true ↔ s.sysFault = true ∨ ∃ code, t.resp = some ⟨.fault, code⟩)

/-- R225: BUSY is the answer of three commands, exactly while a recovery runs (and past the validity guard), and it
changes nothing. -/
def Obligations.BusyChangesNothing : Prop :=
  ∀ (i : Instr) (s t : State), exec i s = .next t →
    ((∃ v, t.resp = some ⟨.busy, v⟩) ↔
      s.rcState ≠ .idle ∧ ((∃ n, i = .htInit n) ∨ s.htValid = true ∧ ((∃ n, i = .htGood n) ∨ ∃ n, i = .htBad n))) ∧
    ((∃ v, t.resp = some ⟨.busy, v⟩) → t = s.afterBusy)

/-- Derived from R68 (its last sentence): the nine reading commands change no register, but for `SYS.fault` by a
fault, and may be repeated. -/
def Obligations.ReadingCommandsHaveNoSideEffect : Prop :=
  ∀ (i : Instr) (s t : State), exec i s = .next t →
    i.mnemonic ∈ ["DF_READ", "S8_READ", "C16_READ", "C8_READ", "S8_CHECK", "C8_CHECK", "HT_QGOOD", "HT_QFLAG",
      "SYS_STATUS"] →
    t.events = [] ∧ t = { s with sysFault := t.sysFault, resp := t.resp, events := [] } ∧
    (t.sysFault = s.sysFault ∨ t.sysFault = true ∧ ∃ code, t.resp = some ⟨.fault, code⟩) ∧ exec i t = .next t

/-- Derived from R20: the 'written by' column of R20, with the frame buffer read byte by byte: a register changes
only in a command the column names. -/
def Obligations.RegistersAreWrittenOnlyByTheirCommands : Prop :=
  ∀ (i : Instr) (s t : State), exec i s = .next t →
    let only := fun (names : List String) (same : Prop) => i.mnemonic ∈ names ∨ same
    only ["S8_INIT", "S8_BYTE"] (t.s8Acc = s.s8Acc) ∧
    only ["C16_INIT", "C16_BYTE"] (t.c16Acc = s.c16Acc) ∧
    only ["C8_INIT", "C8_BYTE"] (t.c8Acc = s.c8Acc) ∧
    only ["DF_START", "DF_BYTE", "DF_EMPTY"]
      (t.dfPhase = s.dfPhase ∧ t.dfEsc = s.dfEsc ∧ t.dfDrain = s.dfDrain ∧ t.dfResult = s.dfResult) ∧
    only ["DF_START", "DF_BYTE"] (t.dfIdx = s.dfIdx ∧ t.dfCnt = s.dfCnt ∧ t.dfSum = s.dfSum) ∧
    only ["DF_BYTE"]
      (t.dfInfo = s.dfInfo ∧ (∀ a, t.buf.read a = s.buf.read a) ∧ t.buf = s.buf ∧ t.rd = s.rd ∧
        t.rdValid = s.rdValid) ∧
    only ["HT_INIT"] (t.htValid = s.htValid) ∧
    only ["HT_INIT", "HT_GOOD"] (t.htGoodCount = s.htGoodCount) ∧
    only ["HT_INIT", "HT_GOOD", "HT_BAD"] (t.htBadStreak = s.htBadStreak ∧ t.htQualityFlag = s.htQualityFlag) ∧
    only ["HT_INIT", "HT_GOOD", "HT_BAD", "RC_TICK"] (t.htLastGood = s.htLastGood) ∧
    only ["HT_SETTHR"] (t.htResetThreshold = s.htResetThreshold) ∧
    only ["HT_GOOD", "HT_BAD", "RC_TICK"] (t.rcState = s.rcState ∧ t.rcT0 = s.rcT0) ∧
    (t.sysFault = s.sysFault ∨ t.sysFault = true ∧ ∃ code, t.resp = some ⟨.fault, code⟩) ∧
    t.cmdIn = s.cmdIn

/-- R87: which command produces which events. -/
def Obligations.EventsComeFromTheirCommands : Prop :=
  ∀ (i : Instr) (s t : State), exec i s = .next t →
    t.events = [] ∨
    (∃ a p, i = .dfStart a p) ∧ t.events = [.tx [0x7E#8, 0x00#8, 0x03#8, 0x00#8, 0xFC#8, 0x7E#8]] ∨
    (∃ n, i = .htGood n ∨ i = .htBad n) ∧ t.events = [.trigger, .pwrOff] ∨
    (∃ n, i = .rcTick n) ∧ (t.events = [.pwrOn] ∨ t.events = [.fanClean])

/-- Derived from R86: which command answers with which code, and the value that goes with it. -/
def Obligations.ResponseCodesAsTheirTableSays : Prop :=
  ∀ (i : Instr) (s t : State), exec i s = .next t → ∃ r, t.resp = some r ∧
    (r.code = .pending → (feedsAttempt i = true ∨ ∃ a p, i = .dfStart a p) ∧ r.val = 0#32 ∧ t.dfPhase ≠ .idle) ∧
    (r.code = .done → (∃ b, i = .dfByte b) ∧ r.val = 0#32 ∧ t.dfPhase = .idle ∧ t.dfResult = .ok ∧ t.rdValid = true) ∧
    (r.code = .fail → (feedsAttempt i = true ∨ ∃ a p, i = .dfStart a p) ∧
      r.val = t.dfResult.val.setWidth 32 ∧ t.dfPhase = .idle) ∧
    (r.code = .busy → r.val = 0#32 ∧ s.rcState ≠ .idle) ∧
    (r.code = .fault → 2 ≤ r.val.toNat ∧ r.val.toNat ≤ 5 ∧ t.sysFault = true) ∧
    (r.code = .ok → feedsAttempt i = false ∧ t.sysFault = s.sysFault)

/-- Derived from R49, for the values log entries 3 and 4 name: no command can observe a register that holds no
value. Two states that agree on every register that holds a value, whatever the others hold, give the same responses
and events for ever. -/
def Obligations.UnspecifiedRegistersAreNeverObserved : Prop :=
  ∀ (k : Nat) (s t : State), s.buf.wf = true → t.buf.wf = true → s.Agree t →
    AgreeOut (core.run k s) (core.run k t)

/-- R63: `MemWrite` then `MemRead` gives the value back, every other cell reads as before, and the byte of lowest
index is the most significant. -/
def Obligations.FrameBufferIsBigEndianAndReadsBack : Prop :=
  ∀ (m : Memory) (a n : Nat) (v : BitVec (8 * n)), m.wf = true → a + n ≤ 40 →
    (m.memWrite a n v).memRead a n = v ∧
    (∀ c, c < a ∨ a + n ≤ c → (m.memWrite a n v).read c = m.read c) ∧
    (m.memWrite a n v).wf = true ∧
    (∀ k, k < n → (m.memRead a n).extractLsb' (8 * (n - 1 - k)) 8 = m.read (a + k))

/-! ## Reports, command by command -/

/-- Derived from R37, R40, R41 and R182 (3): every command keeps it true that `HT.badStreak` is the number of
failures since the last accepted success, up to its limit, and that the quality flag is 0 exactly from the fifth
on. -/
def Obligations.EveryCommandKeepsTheCountOfFailures : Prop :=
  ∀ (i : Instr) (s t : State) (log : List Bool), s.StreakInv log → exec i s = .next t → t.StreakInv (reportsAfter i s log)
end

