-- ==== Sys2Proof/Laws/Decode.lean ====
section
/-! SUPPORT. The fields of a command word and of its operand, read back from what is laid out, and the "zero" bits of
each format as fields. -/

namespace Sys2Proof

open Sys2Proof.Machine

@[simp] theorem opOf_append (op : Byte) (arg : Word) : opOf (op ++ arg) = op := by
  unfold opOf
  ext i hi
  simp only [BitVec.getElem_extractLsb', BitVec.getLsbD_append]
  simp [hi]

@[simp] theorem argOf_append (op : Byte) (arg : Word) : argOf (op ++ arg) = arg := by
  unfold argOf
  ext i hi
  simp only [BitVec.getElem_extractLsb', BitVec.getLsbD_append]
  simp [hi]

/-- A command word is its opcode and its operand. -/
theorem opOf_append_argOf (w : CommandWord) : opOf w ++ argOf w = w := by
  unfold opOf argOf
  ext i hi
  simp only [BitVec.getElem_append, BitVec.getElem_extractLsb', Nat.zero_add]
  split
  · exact BitVec.getLsbD_eq_getElem hi
  · next h =>
    have : 32 + (i - 32) = i := by omega
    rw [this]
    exact BitVec.getLsbD_eq_getElem hi

end Sys2Proof

namespace Sys2Proof.Machine

/-- Masking with the ones above bit `k` is zero exactly when the field above bit `k` is zero. -/
theorem and_highMask_eq_zero {k : Nat} (hk : k ≤ 32) (arg : Word) :
    arg &&& BitVec.ofNat 32 (2 ^ 32 - 2 ^ k) = 0#32 ↔ arg.toNat < 2 ^ k := by
  have hp : 2 ^ k ≤ 2 ^ 32 := Nat.pow_le_pow_right (by decide) hk
  have hm : 2 ^ 32 - 2 ^ k = (2 ^ (32 - k) - 1) * 2 ^ k := by
    rw [Nat.sub_mul, ← Nat.pow_add]
    congr 2
    · omega
    · omega
  have hbit : ∀ i, (BitVec.ofNat 32 (2 ^ 32 - 2 ^ k)).getLsbD i = (decide (k ≤ i) && decide (i < 32)) := by
    intro i
    rw [BitVec.getLsbD_ofNat, hm, Nat.testBit_mul_two_pow]
    by_cases h1 : i < 32
    · by_cases h2 : k ≤ i
      · have h3 : i - k < 32 - k := by omega
        simp [h1, h2, h3]
      · simp [h2]
    · simp [h1]
  constructor
  · intro h
    apply Nat.lt_pow_two_of_testBit
    intro i hi
    by_cases h32 : i < 32
    · have := congrArg (fun v => BitVec.getLsbD v i) h
      simp only [BitVec.getLsbD_and, hbit, hi, h32, decide_true, Bool.and_true, BitVec.getLsbD_zero] at this
      exact this
    · exact Nat.testBit_lt_two_pow (Nat.lt_of_lt_of_le arg.isLt (Nat.pow_le_pow_right (by decide) (by omega)))
  · intro h
    ext i hi
    rw [BitVec.getElem_and, ← BitVec.getLsbD_eq_getElem hi, ← BitVec.getLsbD_eq_getElem hi, hbit]
    by_cases hki : k ≤ i
    · have : arg.getLsbD i = false :=
        Nat.testBit_lt_two_pow (Nat.lt_of_lt_of_le h (Nat.pow_le_pow_right (by decide) hki))
      simp [this]
    · simp [hki]

/-- Format N asks for an operand of zero. -/
theorem zeroBitsClear_N (arg : Word) : Format.N.zeroBitsClear arg = true ↔ arg.toNat < 1 := by
  have := and_highMask_eq_zero (k := 0) (by decide) arg
  simpa [Format.zeroBitsClear, Format.zeroMask] using this

/-- Format B asks for `arg[31:8] = 0`. -/
theorem zeroBitsClear_B (arg : Word) : Format.B.zeroBitsClear arg = true ↔ arg.toNat < 256 := by
  have := and_highMask_eq_zero (k := 8) (by decide) arg
  simpa [Format.zeroBitsClear, Format.zeroMask] using this

/-- Format T asks for nothing. -/
@[simp] theorem zeroBitsClear_T (arg : Word) : Format.T.zeroBitsClear arg = true := by
  simp [Format.zeroBitsClear, Format.zeroMask]

/-- Format S asks for `arg[31:24] = 0`. -/
theorem zeroBitsClear_S (arg : Word) : Format.S.zeroBitsClear arg = true ↔ arg.toNat < 16777216 := by
  have := and_highMask_eq_zero (k := 24) (by decide) arg
  simpa [Format.zeroBitsClear, Format.zeroMask] using this

/-- Format I asks for `arg[31:4] = 0`. -/
theorem zeroBitsClear_I (arg : Word) : Format.I.zeroBitsClear arg = true ↔ arg.toNat < 16 := by
  have := and_highMask_eq_zero (k := 4) (by decide) arg
  simpa [Format.zeroBitsClear, Format.zeroMask] using this

/-- The field above bit `k` is zero exactly when the operand is below `2 ^ k`. -/
theorem highField_eq_zero (k n : Nat) (h : k + n = 32) (arg : Word) :
    arg.extractLsb' k n = 0#n ↔ arg.toNat < 2 ^ k := by
  have hn : arg.toNat / 2 ^ k < 2 ^ n :=
    Nat.div_lt_of_lt_mul (by rw [← Nat.pow_add, h]; exact arg.isLt)
  constructor
  · intro he
    have := congrArg BitVec.toNat he
    simp only [BitVec.extractLsb'_toNat, BitVec.toNat_ofNat, Nat.zero_mod, Nat.shiftRight_eq_div_pow,
      Nat.mod_eq_of_lt hn] at this
    exact Nat.lt_of_not_le fun hle =>
      absurd this (Nat.ne_of_gt (Nat.div_pos hle (Nat.two_pow_pos k)))
  · intro hlt
    apply BitVec.eq_of_toNat_eq
    simp only [BitVec.extractLsb'_toNat, BitVec.toNat_ofNat, Nat.zero_mod, Nat.shiftRight_eq_div_pow,
      Nat.div_eq_of_lt hlt]

@[simp] theorem argByte_byteArg (b : Byte) : argByte (byteArg b) = b := by
  apply BitVec.eq_of_toNat_eq
  have := b.isLt
  simp [argByte, byteArg]
  omega

@[simp] theorem argIndex_indexArg (i : BitVec 4) : argIndex (indexArg i) = i := by
  apply BitVec.eq_of_toNat_eq
  have := i.isLt
  simp [argIndex, indexArg]
  omega

@[simp] theorem argByte_startArg (avail : BitVec 16) (peek : Byte) : argByte (startArg avail peek) = peek := by
  unfold argByte startArg
  ext i hi
  simp only [BitVec.getElem_extractLsb', BitVec.getLsbD_append]
  simp [hi]

@[simp] theorem argAvail_startArg (avail : BitVec 16) (peek : Byte) : argAvail (startArg avail peek) = avail := by
  unfold argAvail startArg
  ext i hi
  simp only [BitVec.getElem_extractLsb', BitVec.getLsbD_append]
  simp [hi]

/-- An operand of format B is laid out again from its byte. -/
theorem byteArg_argByte {arg : Word} (h : Format.B.zeroBitsClear arg = true) : byteArg (argByte arg) = arg := by
  rw [zeroBitsClear_B] at h
  apply BitVec.eq_of_toNat_eq
  simp [byteArg, argByte]
  omega

/-- The same for format I and its index. -/
theorem indexArg_argIndex {arg : Word} (h : Format.I.zeroBitsClear arg = true) : indexArg (argIndex arg) = arg := by
  rw [zeroBitsClear_I] at h
  apply BitVec.eq_of_toNat_eq
  simp [indexArg, argIndex]
  omega

/-- The same for format S and its two fields. -/
theorem startArg_fields {arg : Word} (h : Format.S.zeroBitsClear arg = true) :
    startArg (argAvail arg) (argByte arg) = arg := by
  have h0 : arg.extractLsb' 24 8 = 0#8 := (highField_eq_zero 24 8 rfl arg).2 ((zeroBitsClear_S arg).1 h)
  have hz : ∀ i, 24 ≤ i → i < 32 → arg.getLsbD i = false := by
    intro i h1 h2
    have := congrArg (fun v => v.getLsbD (i - 24)) h0
    simp only [BitVec.getLsbD_extractLsb', BitVec.getLsbD_zero] at this
    simpa [show i - 24 < 8 by omega, show 24 + (i - 24) = i by omega] using this
  unfold startArg argAvail argByte
  ext i hi
  simp only [BitVec.getElem_append, BitVec.getElem_extractLsb', Nat.zero_add]
  split
  · exact BitVec.getLsbD_eq_getElem hi
  · split
    · rw [show 8 + (i - 8) = i by omega]
      exact BitVec.getLsbD_eq_getElem hi
    · rw [← BitVec.getLsbD_eq_getElem hi, hz i (by omega) hi]
      simp

end Sys2Proof.Machine

namespace Sys2Proof

open Sys2Proof.Machine

/-- An operand decodes when the format's zero bits are clear, and then to the command. -/
theorem operand_eq_ok {f : Format} {arg : Word} {i j : Instr} :
    operand f arg i = .ok j ↔ f.zeroBitsClear arg = true ∧ i = j := by
  unfold operand
  split <;> simp_all

end Sys2Proof
end

