-- ==== Sys2Proof/Laws/Memory.lean ====
section
/-! SUPPORT. The frame buffer: reading after writing, and the canonical form. -/

namespace Sys2Proof.Machine

/-- Nothing below the first index of a canonical list is listed. -/
theorem Memory.read_below {m : Memory} : ∀ {lo a : Nat}, Memory.wfFrom lo m = true → a < lo → m.read a = Memory.blank := by
  induction m with
  | nil => intro lo a _ _; rfl
  | cons e m ih =>
    obtain ⟨k, b⟩ := e
    intro lo a h ha
    simp only [Memory.wfFrom, Bool.and_eq_true, decide_eq_true_eq] at h
    have hk : a ≠ k := by omega
    simp only [Memory.read, hk, if_false]
    exact ih h.2 (by omega)

/-- A lower bound may be lowered. -/
theorem Memory.wfFrom_mono {m : Memory} {lo lo' : Nat} (h : Memory.wfFrom lo' m = true) (hle : lo ≤ lo') :
    Memory.wfFrom lo m = true := by
  cases m with
  | nil => rfl
  | cons e m =>
    obtain ⟨k, b⟩ := e
    simp only [Memory.wfFrom, Bool.and_eq_true, decide_eq_true_eq] at h ⊢
    exact ⟨⟨⟨by omega, h.1.1.2⟩, h.1.2⟩, h.2⟩

/-- The byte written is read back. -/
theorem Memory.read_write_same {m : Memory} {lo : Nat} (a : Nat) (v : Byte) (h : Memory.wfFrom lo m = true) :
    (m.write a v).read a = v := by
  induction m generalizing lo with
  | nil => by_cases hv : v = Memory.blank <;> simp [Memory.write, Memory.read, hv]
  | cons e m ih =>
    obtain ⟨k, b⟩ := e
    have h' := h
    simp only [Memory.wfFrom, Bool.and_eq_true, decide_eq_true_eq] at h'
    unfold Memory.write
    split
    · next hlt =>
      split
      · next hv => rw [hv]; exact Memory.read_below (Memory.wfFrom_mono (lo := k) (m := (k, b) :: m) (by
          simp only [Memory.wfFrom, Bool.and_eq_true, decide_eq_true_eq]
          exact ⟨⟨⟨le_refl k, h'.1.1.2⟩, h'.1.2⟩, h'.2⟩) (le_refl k)) hlt
      · simp [Memory.read]
    · next hge =>
      split
      · next heq =>
        split
        · next hv => rw [hv]; exact Memory.read_below h'.2 (by omega)
        · simp [Memory.read]
      · next hne => simp only [Memory.read, hne, if_false]; exact ih h'.2

/-- Every other byte is as it was. -/
theorem Memory.read_write_other (m : Memory) {a c : Nat} (v : Byte) (hne : c ≠ a) : (m.write a v).read c = m.read c := by
  induction m with
  | nil => by_cases hv : v = Memory.blank <;> simp [Memory.write, Memory.read, hv, hne]
  | cons e m ih =>
    obtain ⟨k, b⟩ := e
    unfold Memory.write
    split
    · split
      · rfl
      · simp [Memory.read, hne]
    · split
      · next heq => subst heq; split <;> simp [Memory.read, hne]
      · simp only [Memory.read]; split
        · rfl
        · exact ih

/-- A write below 40 keeps the canonical form. -/
theorem Memory.wfFrom_write {m : Memory} {lo a : Nat} (v : Byte) (h : Memory.wfFrom lo m = true) (hlo : lo ≤ a)
    (ha : a < bufCells) : Memory.wfFrom lo (m.write a v) = true := by
  induction m generalizing lo with
  | nil =>
    by_cases hv : v = Memory.blank <;> simp [Memory.write, Memory.wfFrom, hv, hlo, ha]
  | cons e m ih =>
    obtain ⟨k, b⟩ := e
    have h' := h
    simp only [Memory.wfFrom, Bool.and_eq_true, decide_eq_true_eq] at h'
    unfold Memory.write
    split
    · next hlt =>
      split
      · exact h
      · next hv =>
        simp only [Memory.wfFrom, Bool.and_eq_true, decide_eq_true_eq, bne_iff_ne, ne_eq]
        exact ⟨⟨⟨hlo, ha⟩, hv⟩, ⟨⟨⟨by omega, h'.1.1.2⟩, by simpa using h'.1.2⟩, h'.2⟩⟩
    · split
      · next heq =>
        split
        · exact Memory.wfFrom_mono h'.2 (by omega)
        · next hv =>
          simp only [Memory.wfFrom, Bool.and_eq_true, decide_eq_true_eq, bne_iff_ne, ne_eq]
          subst heq
          exact ⟨⟨⟨hlo, ha⟩, hv⟩, h'.2⟩
      · next hne =>
        simp only [Memory.wfFrom, Bool.and_eq_true, decide_eq_true_eq]
        exact ⟨h'.1, ih h'.2 (by omega)⟩

/-- `MemWrite(addr, 1, v)` is one write. -/
@[simp] theorem Memory.memWrite_one (m : Memory) (a : Nat) (v : Byte) : m.memWrite a 1 v = m.write a v := by
  simp only [Memory.memWrite, Nat.add_zero]
  congr 1
  ext i hi
  simp

/-- Every memory operation keeps the canonical form: the store the meanings use. -/
theorem Memory.wf_write {m : Memory} {a : Nat} (v : Byte) (h : m.wf = true) (ha : a < bufCells) :
    (m.write a v).wf = true := Memory.wfFrom_write v h (Nat.zero_le a) ha

/-- Every memory operation keeps the canonical form: a write of several bytes. -/
theorem Memory.wf_memWrite {m : Memory} {a : Nat} (n : Nat) (v : BitVec (8 * n)) (h : m.wf = true)
    (ha : a + n ≤ bufCells) : (m.memWrite a n v).wf = true := by
  induction n with
  | zero => exact h
  | succ n ih => exact Memory.wf_write _ (ih _ (by omega)) (by omega)

/-- Canonical frame buffers that read the same are equal. -/
theorem Memory.eq_of_read_eq {m m' : Memory} : ∀ {lo : Nat}, Memory.wfFrom lo m = true → Memory.wfFrom lo m' = true →
    (∀ a, m.read a = m'.read a) → m = m' := by
  induction m generalizing m' with
  | nil =>
    intro lo _ h' hr
    cases m' with
    | nil => rfl
    | cons e m' =>
      obtain ⟨k, b⟩ := e
      simp only [Memory.wfFrom, Bool.and_eq_true, bne_iff_ne, ne_eq] at h'
      have := hr k
      simp only [Memory.read, if_true] at this
      exact absurd this.symm h'.1.2
  | cons e m ih =>
    obtain ⟨k, b⟩ := e
    intro lo h h' hr
    have hw := h
    simp only [Memory.wfFrom, Bool.and_eq_true, decide_eq_true_eq, bne_iff_ne, ne_eq] at hw
    cases m' with
    | nil =>
      have := hr k
      simp only [Memory.read, if_true] at this
      exact absurd this hw.1.2
    | cons e' m' =>
      obtain ⟨k', b'⟩ := e'
      have hw' := h'
      simp only [Memory.wfFrom, Bool.and_eq_true, decide_eq_true_eq, bne_iff_ne, ne_eq] at hw'
      have hk : k = k' := by
        rcases Nat.lt_trichotomy k k' with hlt | heq | hgt
        · have := hr k
          simp only [Memory.read, if_true, Nat.ne_of_lt hlt, if_false] at this
          rw [Memory.read_below hw'.2 (by omega)] at this
          exact absurd this hw.1.2
        · exact heq
        · have := hr k'
          simp only [Memory.read, if_true, Nat.ne_of_lt hgt, if_false] at this
          rw [Memory.read_below hw.2 (by omega)] at this
          exact absurd this.symm hw'.1.2
      subst hk
      have hb : b = b' := by simpa [Memory.read] using hr k
      subst hb
      have : m = m' := ih hw.2 hw'.2 (fun a => by
        by_cases ha : a = k
        · subst ha
          rw [Memory.read_below hw.2 (by omega), Memory.read_below hw'.2 (by omega)]
        · simpa [Memory.read, ha] using hr a)
      rw [this]

/-- The frame buffer after reset has the canonical form. -/
theorem reset_buf_wf : State.reset.buf.wf = true := by decide

end Sys2Proof.Machine
end

