-- ==== Sys2Proof/Laws/State.lean ====
section
/-! SUPPORT. For each named update of State, what each field is after it. -/

namespace Sys2Proof.Machine

variable (s : State)

/-! ## `State.answer` -/

@[simp] theorem State.answer_s8Acc (code : RespCode) (val : Word) (evs : List Event) : (s.answer code val evs).s8Acc = s.s8Acc := rfl
@[simp] theorem State.answer_c16Acc (code : RespCode) (val : Word) (evs : List Event) : (s.answer code val evs).c16Acc = s.c16Acc := rfl
@[simp] theorem State.answer_c8Acc (code : RespCode) (val : Word) (evs : List Event) : (s.answer code val evs).c8Acc = s.c8Acc := rfl
@[simp] theorem State.answer_dfPhase (code : RespCode) (val : Word) (evs : List Event) : (s.answer code val evs).dfPhase = s.dfPhase := rfl
@[simp] theorem State.answer_dfIdx (code : RespCode) (val : Word) (evs : List Event) : (s.answer code val evs).dfIdx = s.dfIdx := rfl
@[simp] theorem State.answer_dfEsc (code : RespCode) (val : Word) (evs : List Event) : (s.answer code val evs).dfEsc = s.dfEsc := rfl
@[simp] theorem State.answer_dfCnt (code : RespCode) (val : Word) (evs : List Event) : (s.answer code val evs).dfCnt = s.dfCnt := rfl
@[simp] theorem State.answer_dfSum (code : RespCode) (val : Word) (evs : List Event) : (s.answer code val evs).dfSum = s.dfSum := rfl
@[simp] theorem State.answer_dfDrain (code : RespCode) (val : Word) (evs : List Event) : (s.answer code val evs).dfDrain = s.dfDrain := rfl
@[simp] theorem State.answer_dfResult (code : RespCode) (val : Word) (evs : List Event) : (s.answer code val evs).dfResult = s.dfResult := rfl
@[simp] theorem State.answer_dfInfo (code : RespCode) (val : Word) (evs : List Event) : (s.answer code val evs).dfInfo = s.dfInfo := rfl
@[simp] theorem State.answer_buf (code : RespCode) (val : Word) (evs : List Event) : (s.answer code val evs).buf = s.buf := rfl
@[simp] theorem State.answer_rd (code : RespCode) (val : Word) (evs : List Event) : (s.answer code val evs).rd = s.rd := rfl
@[simp] theorem State.answer_rdValid (code : RespCode) (val : Word) (evs : List Event) : (s.answer code val evs).rdValid = s.rdValid := rfl
@[simp] theorem State.answer_htValid (code : RespCode) (val : Word) (evs : List Event) : (s.answer code val evs).htValid = s.htValid := rfl
@[simp] theorem State.answer_htGoodCount (code : RespCode) (val : Word) (evs : List Event) : (s.answer code val evs).htGoodCount = s.htGoodCount := rfl
@[simp] theorem State.answer_htBadStreak (code : RespCode) (val : Word) (evs : List Event) : (s.answer code val evs).htBadStreak = s.htBadStreak := rfl
@[simp] theorem State.answer_htLastGood (code : RespCode) (val : Word) (evs : List Event) : (s.answer code val evs).htLastGood = s.htLastGood := rfl
@[simp] theorem State.answer_htResetThreshold (code : RespCode) (val : Word) (evs : List Event) : (s.answer code val evs).htResetThreshold = s.htResetThreshold := rfl
@[simp] theorem State.answer_htQualityFlag (code : RespCode) (val : Word) (evs : List Event) : (s.answer code val evs).htQualityFlag = s.htQualityFlag := rfl
@[simp] theorem State.answer_rcState (code : RespCode) (val : Word) (evs : List Event) : (s.answer code val evs).rcState = s.rcState := rfl
@[simp] theorem State.answer_rcT0 (code : RespCode) (val : Word) (evs : List Event) : (s.answer code val evs).rcT0 = s.rcT0 := rfl
@[simp] theorem State.answer_sysFault (code : RespCode) (val : Word) (evs : List Event) : (s.answer code val evs).sysFault = s.sysFault := rfl
@[simp] theorem State.answer_cmdIn (code : RespCode) (val : Word) (evs : List Event) : (s.answer code val evs).cmdIn = s.cmdIn := rfl
@[simp] theorem State.answer_resp (code : RespCode) (val : Word) (evs : List Event) : (s.answer code val evs).resp = some ⟨code, val⟩ := rfl
@[simp] theorem State.answer_events (code : RespCode) (val : Word) (evs : List Event) : (s.answer code val evs).events = evs := rfl

/-! ## `State.raiseFault` -/

@[simp] theorem State.raiseFault_s8Acc (c : FaultCode) : (s.raiseFault c).s8Acc = s.s8Acc := rfl
@[simp] theorem State.raiseFault_c16Acc (c : FaultCode) : (s.raiseFault c).c16Acc = s.c16Acc := rfl
@[simp] theorem State.raiseFault_c8Acc (c : FaultCode) : (s.raiseFault c).c8Acc = s.c8Acc := rfl
@[simp] theorem State.raiseFault_dfPhase (c : FaultCode) : (s.raiseFault c).dfPhase = s.dfPhase := rfl
@[simp] theorem State.raiseFault_dfIdx (c : FaultCode) : (s.raiseFault c).dfIdx = s.dfIdx := rfl
@[simp] theorem State.raiseFault_dfEsc (c : FaultCode) : (s.raiseFault c).dfEsc = s.dfEsc := rfl
@[simp] theorem State.raiseFault_dfCnt (c : FaultCode) : (s.raiseFault c).dfCnt = s.dfCnt := rfl
@[simp] theorem State.raiseFault_dfSum (c : FaultCode) : (s.raiseFault c).dfSum = s.dfSum := rfl
@[simp] theorem State.raiseFault_dfDrain (c : FaultCode) : (s.raiseFault c).dfDrain = s.dfDrain := rfl
@[simp] theorem State.raiseFault_dfResult (c : FaultCode) : (s.raiseFault c).dfResult = s.dfResult := rfl
@[simp] theorem State.raiseFault_dfInfo (c : FaultCode) : (s.raiseFault c).dfInfo = s.dfInfo := rfl
@[simp] theorem State.raiseFault_buf (c : FaultCode) : (s.raiseFault c).buf = s.buf := rfl
@[simp] theorem State.raiseFault_rd (c : FaultCode) : (s.raiseFault c).rd = s.rd := rfl
@[simp] theorem State.raiseFault_rdValid (c : FaultCode) : (s.raiseFault c).rdValid = s.rdValid := rfl
@[simp] theorem State.raiseFault_htValid (c : FaultCode) : (s.raiseFault c).htValid = s.htValid := rfl
@[simp] theorem State.raiseFault_htGoodCount (c : FaultCode) : (s.raiseFault c).htGoodCount = s.htGoodCount := rfl
@[simp] theorem State.raiseFault_htBadStreak (c : FaultCode) : (s.raiseFault c).htBadStreak = s.htBadStreak := rfl
@[simp] theorem State.raiseFault_htLastGood (c : FaultCode) : (s.raiseFault c).htLastGood = s.htLastGood := rfl
@[simp] theorem State.raiseFault_htResetThreshold (c : FaultCode) : (s.raiseFault c).htResetThreshold = s.htResetThreshold := rfl
@[simp] theorem State.raiseFault_htQualityFlag (c : FaultCode) : (s.raiseFault c).htQualityFlag = s.htQualityFlag := rfl
@[simp] theorem State.raiseFault_rcState (c : FaultCode) : (s.raiseFault c).rcState = s.rcState := rfl
@[simp] theorem State.raiseFault_rcT0 (c : FaultCode) : (s.raiseFault c).rcT0 = s.rcT0 := rfl
@[simp] theorem State.raiseFault_sysFault (c : FaultCode) : (s.raiseFault c).sysFault = true := rfl
@[simp] theorem State.raiseFault_cmdIn (c : FaultCode) : (s.raiseFault c).cmdIn = s.cmdIn := rfl
@[simp] theorem State.raiseFault_resp (c : FaultCode) : (s.raiseFault c).resp = some ⟨.fault, c.val⟩ := rfl
@[simp] theorem State.raiseFault_events (c : FaultCode) : (s.raiseFault c).events = [] := rfl

/-! ## `State.present` -/

@[simp] theorem State.present_s8Acc (w : CommandWord) : (s.present w).s8Acc = s.s8Acc := rfl
@[simp] theorem State.present_c16Acc (w : CommandWord) : (s.present w).c16Acc = s.c16Acc := rfl
@[simp] theorem State.present_c8Acc (w : CommandWord) : (s.present w).c8Acc = s.c8Acc := rfl
@[simp] theorem State.present_dfPhase (w : CommandWord) : (s.present w).dfPhase = s.dfPhase := rfl
@[simp] theorem State.present_dfIdx (w : CommandWord) : (s.present w).dfIdx = s.dfIdx := rfl
@[simp] theorem State.present_dfEsc (w : CommandWord) : (s.present w).dfEsc = s.dfEsc := rfl
@[simp] theorem State.present_dfCnt (w : CommandWord) : (s.present w).dfCnt = s.dfCnt := rfl
@[simp] theorem State.present_dfSum (w : CommandWord) : (s.present w).dfSum = s.dfSum := rfl
@[simp] theorem State.present_dfDrain (w : CommandWord) : (s.present w).dfDrain = s.dfDrain := rfl
@[simp] theorem State.present_dfResult (w : CommandWord) : (s.present w).dfResult = s.dfResult := rfl
@[simp] theorem State.present_dfInfo (w : CommandWord) : (s.present w).dfInfo = s.dfInfo := rfl
@[simp] theorem State.present_buf (w : CommandWord) : (s.present w).buf = s.buf := rfl
@[simp] theorem State.present_rd (w : CommandWord) : (s.present w).rd = s.rd := rfl
@[simp] theorem State.present_rdValid (w : CommandWord) : (s.present w).rdValid = s.rdValid := rfl
@[simp] theorem State.present_htValid (w : CommandWord) : (s.present w).htValid = s.htValid := rfl
@[simp] theorem State.present_htGoodCount (w : CommandWord) : (s.present w).htGoodCount = s.htGoodCount := rfl
@[simp] theorem State.present_htBadStreak (w : CommandWord) : (s.present w).htBadStreak = s.htBadStreak := rfl
@[simp] theorem State.present_htLastGood (w : CommandWord) : (s.present w).htLastGood = s.htLastGood := rfl
@[simp] theorem State.present_htResetThreshold (w : CommandWord) : (s.present w).htResetThreshold = s.htResetThreshold := rfl
@[simp] theorem State.present_htQualityFlag (w : CommandWord) : (s.present w).htQualityFlag = s.htQualityFlag := rfl
@[simp] theorem State.present_rcState (w : CommandWord) : (s.present w).rcState = s.rcState := rfl
@[simp] theorem State.present_rcT0 (w : CommandWord) : (s.present w).rcT0 = s.rcT0 := rfl
@[simp] theorem State.present_sysFault (w : CommandWord) : (s.present w).sysFault = s.sysFault := rfl
@[simp] theorem State.present_cmdIn (w : CommandWord) : (s.present w).cmdIn = w :: s.cmdIn := rfl
@[simp] theorem State.present_resp (w : CommandWord) : (s.present w).resp = s.resp := rfl
@[simp] theorem State.present_events (w : CommandWord) : (s.present w).events = s.events := rfl

/-! ## `State.startRecovery` -/

@[simp] theorem State.startRecovery_s8Acc (now : Word) : (s.startRecovery now).s8Acc = s.s8Acc := rfl
@[simp] theorem State.startRecovery_c16Acc (now : Word) : (s.startRecovery now).c16Acc = s.c16Acc := rfl
@[simp] theorem State.startRecovery_c8Acc (now : Word) : (s.startRecovery now).c8Acc = s.c8Acc := rfl
@[simp] theorem State.startRecovery_dfPhase (now : Word) : (s.startRecovery now).dfPhase = s.dfPhase := rfl
@[simp] theorem State.startRecovery_dfIdx (now : Word) : (s.startRecovery now).dfIdx = s.dfIdx := rfl
@[simp] theorem State.startRecovery_dfEsc (now : Word) : (s.startRecovery now).dfEsc = s.dfEsc := rfl
@[simp] theorem State.startRecovery_dfCnt (now : Word) : (s.startRecovery now).dfCnt = s.dfCnt := rfl
@[simp] theorem State.startRecovery_dfSum (now : Word) : (s.startRecovery now).dfSum = s.dfSum := rfl
@[simp] theorem State.startRecovery_dfDrain (now : Word) : (s.startRecovery now).dfDrain = s.dfDrain := rfl
@[simp] theorem State.startRecovery_dfResult (now : Word) : (s.startRecovery now).dfResult = s.dfResult := rfl
@[simp] theorem State.startRecovery_dfInfo (now : Word) : (s.startRecovery now).dfInfo = s.dfInfo := rfl
@[simp] theorem State.startRecovery_buf (now : Word) : (s.startRecovery now).buf = s.buf := rfl
@[simp] theorem State.startRecovery_rd (now : Word) : (s.startRecovery now).rd = s.rd := rfl
@[simp] theorem State.startRecovery_rdValid (now : Word) : (s.startRecovery now).rdValid = s.rdValid := rfl
@[simp] theorem State.startRecovery_htValid (now : Word) : (s.startRecovery now).htValid = s.htValid := rfl
@[simp] theorem State.startRecovery_htGoodCount (now : Word) : (s.startRecovery now).htGoodCount = s.htGoodCount := rfl
@[simp] theorem State.startRecovery_htBadStreak (now : Word) : (s.startRecovery now).htBadStreak = s.htBadStreak := rfl
@[simp] theorem State.startRecovery_htLastGood (now : Word) : (s.startRecovery now).htLastGood = now := rfl
@[simp] theorem State.startRecovery_htResetThreshold (now : Word) : (s.startRecovery now).htResetThreshold = s.htResetThreshold := rfl
@[simp] theorem State.startRecovery_htQualityFlag (now : Word) : (s.startRecovery now).htQualityFlag = s.htQualityFlag := rfl
@[simp] theorem State.startRecovery_rcState (now : Word) : (s.startRecovery now).rcState = .offWait := rfl
@[simp] theorem State.startRecovery_rcT0 (now : Word) : (s.startRecovery now).rcT0 = now := rfl
@[simp] theorem State.startRecovery_sysFault (now : Word) : (s.startRecovery now).sysFault = s.sysFault := rfl
@[simp] theorem State.startRecovery_cmdIn (now : Word) : (s.startRecovery now).cmdIn = s.cmdIn := rfl
@[simp] theorem State.startRecovery_resp (now : Word) : (s.startRecovery now).resp = s.resp := rfl
@[simp] theorem State.startRecovery_events (now : Word) : (s.startRecovery now).events = s.events := rfl

/-! ## `State.countGood` -/

@[simp] theorem State.countGood_s8Acc (now : Word) : (s.countGood now).s8Acc = s.s8Acc := rfl
@[simp] theorem State.countGood_c16Acc (now : Word) : (s.countGood now).c16Acc = s.c16Acc := rfl
@[simp] theorem State.countGood_c8Acc (now : Word) : (s.countGood now).c8Acc = s.c8Acc := rfl
@[simp] theorem State.countGood_dfPhase (now : Word) : (s.countGood now).dfPhase = s.dfPhase := rfl
@[simp] theorem State.countGood_dfIdx (now : Word) : (s.countGood now).dfIdx = s.dfIdx := rfl
@[simp] theorem State.countGood_dfEsc (now : Word) : (s.countGood now).dfEsc = s.dfEsc := rfl
@[simp] theorem State.countGood_dfCnt (now : Word) : (s.countGood now).dfCnt = s.dfCnt := rfl
@[simp] theorem State.countGood_dfSum (now : Word) : (s.countGood now).dfSum = s.dfSum := rfl
@[simp] theorem State.countGood_dfDrain (now : Word) : (s.countGood now).dfDrain = s.dfDrain := rfl
@[simp] theorem State.countGood_dfResult (now : Word) : (s.countGood now).dfResult = s.dfResult := rfl
@[simp] theorem State.countGood_dfInfo (now : Word) : (s.countGood now).dfInfo = s.dfInfo := rfl
@[simp] theorem State.countGood_buf (now : Word) : (s.countGood now).buf = s.buf := rfl
@[simp] theorem State.countGood_rd (now : Word) : (s.countGood now).rd = s.rd := rfl
@[simp] theorem State.countGood_rdValid (now : Word) : (s.countGood now).rdValid = s.rdValid := rfl
@[simp] theorem State.countGood_htValid (now : Word) : (s.countGood now).htValid = s.htValid := rfl
@[simp] theorem State.countGood_htGoodCount (now : Word) : (s.countGood now).htGoodCount = satInc s.htGoodCount := rfl
@[simp] theorem State.countGood_htBadStreak (now : Word) : (s.countGood now).htBadStreak = 0#16 := rfl
@[simp] theorem State.countGood_htLastGood (now : Word) : (s.countGood now).htLastGood = now := rfl
@[simp] theorem State.countGood_htResetThreshold (now : Word) : (s.countGood now).htResetThreshold = s.htResetThreshold := rfl
@[simp] theorem State.countGood_htQualityFlag (now : Word) : (s.countGood now).htQualityFlag = true := rfl
@[simp] theorem State.countGood_rcState (now : Word) : (s.countGood now).rcState = s.rcState := rfl
@[simp] theorem State.countGood_rcT0 (now : Word) : (s.countGood now).rcT0 = s.rcT0 := rfl
@[simp] theorem State.countGood_sysFault (now : Word) : (s.countGood now).sysFault = s.sysFault := rfl
@[simp] theorem State.countGood_cmdIn (now : Word) : (s.countGood now).cmdIn = s.cmdIn := rfl
@[simp] theorem State.countGood_resp (now : Word) : (s.countGood now).resp = s.resp := rfl
@[simp] theorem State.countGood_events (now : Word) : (s.countGood now).events = s.events := rfl

/-! ## `State.countBad` -/

@[simp] theorem State.countBad_s8Acc : (s.countBad).s8Acc = s.s8Acc := rfl
@[simp] theorem State.countBad_c16Acc : (s.countBad).c16Acc = s.c16Acc := rfl
@[simp] theorem State.countBad_c8Acc : (s.countBad).c8Acc = s.c8Acc := rfl
@[simp] theorem State.countBad_dfPhase : (s.countBad).dfPhase = s.dfPhase := rfl
@[simp] theorem State.countBad_dfIdx : (s.countBad).dfIdx = s.dfIdx := rfl
@[simp] theorem State.countBad_dfEsc : (s.countBad).dfEsc = s.dfEsc := rfl
@[simp] theorem State.countBad_dfCnt : (s.countBad).dfCnt = s.dfCnt := rfl
@[simp] theorem State.countBad_dfSum : (s.countBad).dfSum = s.dfSum := rfl
@[simp] theorem State.countBad_dfDrain : (s.countBad).dfDrain = s.dfDrain := rfl
@[simp] theorem State.countBad_dfResult : (s.countBad).dfResult = s.dfResult := rfl
@[simp] theorem State.countBad_dfInfo : (s.countBad).dfInfo = s.dfInfo := rfl
@[simp] theorem State.countBad_buf : (s.countBad).buf = s.buf := rfl
@[simp] theorem State.countBad_rd : (s.countBad).rd = s.rd := rfl
@[simp] theorem State.countBad_rdValid : (s.countBad).rdValid = s.rdValid := rfl
@[simp] theorem State.countBad_htValid : (s.countBad).htValid = s.htValid := rfl
@[simp] theorem State.countBad_htGoodCount : (s.countBad).htGoodCount = s.htGoodCount := rfl
@[simp] theorem State.countBad_htBadStreak : (s.countBad).htBadStreak = satInc s.htBadStreak := rfl
@[simp] theorem State.countBad_htLastGood : (s.countBad).htLastGood = s.htLastGood := rfl
@[simp] theorem State.countBad_htResetThreshold : (s.countBad).htResetThreshold = s.htResetThreshold := rfl
@[simp] theorem State.countBad_htQualityFlag : (s.countBad).htQualityFlag = qualityAfterBad (satInc s.htBadStreak) s.htQualityFlag := rfl
@[simp] theorem State.countBad_rcState : (s.countBad).rcState = s.rcState := rfl
@[simp] theorem State.countBad_rcT0 : (s.countBad).rcT0 = s.rcT0 := rfl
@[simp] theorem State.countBad_sysFault : (s.countBad).sysFault = s.sysFault := rfl
@[simp] theorem State.countBad_cmdIn : (s.countBad).cmdIn = s.cmdIn := rfl
@[simp] theorem State.countBad_resp : (s.countBad).resp = s.resp := rfl
@[simp] theorem State.countBad_events : (s.countBad).events = s.events := rfl

/-! ## `State.completeRecovery` -/

@[simp] theorem State.completeRecovery_s8Acc (now : Word) : (s.completeRecovery now).s8Acc = s.s8Acc := rfl
@[simp] theorem State.completeRecovery_c16Acc (now : Word) : (s.completeRecovery now).c16Acc = s.c16Acc := rfl
@[simp] theorem State.completeRecovery_c8Acc (now : Word) : (s.completeRecovery now).c8Acc = s.c8Acc := rfl
@[simp] theorem State.completeRecovery_dfPhase (now : Word) : (s.completeRecovery now).dfPhase = s.dfPhase := rfl
@[simp] theorem State.completeRecovery_dfIdx (now : Word) : (s.completeRecovery now).dfIdx = s.dfIdx := rfl
@[simp] theorem State.completeRecovery_dfEsc (now : Word) : (s.completeRecovery now).dfEsc = s.dfEsc := rfl
@[simp] theorem State.completeRecovery_dfCnt (now : Word) : (s.completeRecovery now).dfCnt = s.dfCnt := rfl
@[simp] theorem State.completeRecovery_dfSum (now : Word) : (s.completeRecovery now).dfSum = s.dfSum := rfl
@[simp] theorem State.completeRecovery_dfDrain (now : Word) : (s.completeRecovery now).dfDrain = s.dfDrain := rfl
@[simp] theorem State.completeRecovery_dfResult (now : Word) : (s.completeRecovery now).dfResult = s.dfResult := rfl
@[simp] theorem State.completeRecovery_dfInfo (now : Word) : (s.completeRecovery now).dfInfo = s.dfInfo := rfl
@[simp] theorem State.completeRecovery_buf (now : Word) : (s.completeRecovery now).buf = s.buf := rfl
@[simp] theorem State.completeRecovery_rd (now : Word) : (s.completeRecovery now).rd = s.rd := rfl
@[simp] theorem State.completeRecovery_rdValid (now : Word) : (s.completeRecovery now).rdValid = s.rdValid := rfl
@[simp] theorem State.completeRecovery_htValid (now : Word) : (s.completeRecovery now).htValid = s.htValid := rfl
@[simp] theorem State.completeRecovery_htGoodCount (now : Word) : (s.completeRecovery now).htGoodCount = s.htGoodCount := rfl
@[simp] theorem State.completeRecovery_htBadStreak (now : Word) : (s.completeRecovery now).htBadStreak = s.htBadStreak := rfl
@[simp] theorem State.completeRecovery_htLastGood (now : Word) : (s.completeRecovery now).htLastGood = now := rfl
@[simp] theorem State.completeRecovery_htResetThreshold (now : Word) : (s.completeRecovery now).htResetThreshold = s.htResetThreshold := rfl
@[simp] theorem State.completeRecovery_htQualityFlag (now : Word) : (s.completeRecovery now).htQualityFlag = s.htQualityFlag := rfl
@[simp] theorem State.completeRecovery_rcState (now : Word) : (s.completeRecovery now).rcState = .idle := rfl
@[simp] theorem State.completeRecovery_rcT0 (now : Word) : (s.completeRecovery now).rcT0 = s.rcT0 := rfl
@[simp] theorem State.completeRecovery_sysFault (now : Word) : (s.completeRecovery now).sysFault = s.sysFault := rfl
@[simp] theorem State.completeRecovery_cmdIn (now : Word) : (s.completeRecovery now).cmdIn = s.cmdIn := rfl
@[simp] theorem State.completeRecovery_resp (now : Word) : (s.completeRecovery now).resp = s.resp := rfl
@[simp] theorem State.completeRecovery_events (now : Word) : (s.completeRecovery now).events = s.events := rfl

/-! ## `State.enterWait` -/

@[simp] theorem State.enterWait_s8Acc (w : RcState) (now : Word) : (s.enterWait w now).s8Acc = s.s8Acc := rfl
@[simp] theorem State.enterWait_c16Acc (w : RcState) (now : Word) : (s.enterWait w now).c16Acc = s.c16Acc := rfl
@[simp] theorem State.enterWait_c8Acc (w : RcState) (now : Word) : (s.enterWait w now).c8Acc = s.c8Acc := rfl
@[simp] theorem State.enterWait_dfPhase (w : RcState) (now : Word) : (s.enterWait w now).dfPhase = s.dfPhase := rfl
@[simp] theorem State.enterWait_dfIdx (w : RcState) (now : Word) : (s.enterWait w now).dfIdx = s.dfIdx := rfl
@[simp] theorem State.enterWait_dfEsc (w : RcState) (now : Word) : (s.enterWait w now).dfEsc = s.dfEsc := rfl
@[simp] theorem State.enterWait_dfCnt (w : RcState) (now : Word) : (s.enterWait w now).dfCnt = s.dfCnt := rfl
@[simp] theorem State.enterWait_dfSum (w : RcState) (now : Word) : (s.enterWait w now).dfSum = s.dfSum := rfl
@[simp] theorem State.enterWait_dfDrain (w : RcState) (now : Word) : (s.enterWait w now).dfDrain = s.dfDrain := rfl
@[simp] theorem State.enterWait_dfResult (w : RcState) (now : Word) : (s.enterWait w now).dfResult = s.dfResult := rfl
@[simp] theorem State.enterWait_dfInfo (w : RcState) (now : Word) : (s.enterWait w now).dfInfo = s.dfInfo := rfl
@[simp] theorem State.enterWait_buf (w : RcState) (now : Word) : (s.enterWait w now).buf = s.buf := rfl
@[simp] theorem State.enterWait_rd (w : RcState) (now : Word) : (s.enterWait w now).rd = s.rd := rfl
@[simp] theorem State.enterWait_rdValid (w : RcState) (now : Word) : (s.enterWait w now).rdValid = s.rdValid := rfl
@[simp] theorem State.enterWait_htValid (w : RcState) (now : Word) : (s.enterWait w now).htValid = s.htValid := rfl
@[simp] theorem State.enterWait_htGoodCount (w : RcState) (now : Word) : (s.enterWait w now).htGoodCount = s.htGoodCount := rfl
@[simp] theorem State.enterWait_htBadStreak (w : RcState) (now : Word) : (s.enterWait w now).htBadStreak = s.htBadStreak := rfl
@[simp] theorem State.enterWait_htLastGood (w : RcState) (now : Word) : (s.enterWait w now).htLastGood = s.htLastGood := rfl
@[simp] theorem State.enterWait_htResetThreshold (w : RcState) (now : Word) : (s.enterWait w now).htResetThreshold = s.htResetThreshold := rfl
@[simp] theorem State.enterWait_htQualityFlag (w : RcState) (now : Word) : (s.enterWait w now).htQualityFlag = s.htQualityFlag := rfl
@[simp] theorem State.enterWait_rcState (w : RcState) (now : Word) : (s.enterWait w now).rcState = w := rfl
@[simp] theorem State.enterWait_rcT0 (w : RcState) (now : Word) : (s.enterWait w now).rcT0 = now := rfl
@[simp] theorem State.enterWait_sysFault (w : RcState) (now : Word) : (s.enterWait w now).sysFault = s.sysFault := rfl
@[simp] theorem State.enterWait_cmdIn (w : RcState) (now : Word) : (s.enterWait w now).cmdIn = s.cmdIn := rfl
@[simp] theorem State.enterWait_resp (w : RcState) (now : Word) : (s.enterWait w now).resp = s.resp := rfl
@[simp] theorem State.enterWait_events (w : RcState) (now : Word) : (s.enterWait w now).events = s.events := rfl

/-! ## `State.dfStoreInfo` -/

@[simp] theorem State.dfStoreInfo_s8Acc (k : Nat) (h : k < 5) (b : Byte) : (s.dfStoreInfo k h b).s8Acc = s.s8Acc := rfl
@[simp] theorem State.dfStoreInfo_c16Acc (k : Nat) (h : k < 5) (b : Byte) : (s.dfStoreInfo k h b).c16Acc = s.c16Acc := rfl
@[simp] theorem State.dfStoreInfo_c8Acc (k : Nat) (h : k < 5) (b : Byte) : (s.dfStoreInfo k h b).c8Acc = s.c8Acc := rfl
@[simp] theorem State.dfStoreInfo_dfPhase (k : Nat) (h : k < 5) (b : Byte) : (s.dfStoreInfo k h b).dfPhase = s.dfPhase := rfl
@[simp] theorem State.dfStoreInfo_dfIdx (k : Nat) (h : k < 5) (b : Byte) : (s.dfStoreInfo k h b).dfIdx = s.dfIdx := rfl
@[simp] theorem State.dfStoreInfo_dfEsc (k : Nat) (h : k < 5) (b : Byte) : (s.dfStoreInfo k h b).dfEsc = s.dfEsc := rfl
@[simp] theorem State.dfStoreInfo_dfCnt (k : Nat) (h : k < 5) (b : Byte) : (s.dfStoreInfo k h b).dfCnt = s.dfCnt := rfl
@[simp] theorem State.dfStoreInfo_dfSum (k : Nat) (h : k < 5) (b : Byte) : (s.dfStoreInfo k h b).dfSum = if 1 ≤ k then s.dfSum + b else s.dfSum := rfl
@[simp] theorem State.dfStoreInfo_dfDrain (k : Nat) (h : k < 5) (b : Byte) : (s.dfStoreInfo k h b).dfDrain = s.dfDrain := rfl
@[simp] theorem State.dfStoreInfo_dfResult (k : Nat) (h : k < 5) (b : Byte) : (s.dfStoreInfo k h b).dfResult = s.dfResult := rfl
@[simp] theorem State.dfStoreInfo_dfInfo (k : Nat) (h : k < 5) (b : Byte) : (s.dfStoreInfo k h b).dfInfo = s.dfInfo.set k b h := rfl
@[simp] theorem State.dfStoreInfo_buf (k : Nat) (h : k < 5) (b : Byte) : (s.dfStoreInfo k h b).buf = s.buf := rfl
@[simp] theorem State.dfStoreInfo_rd (k : Nat) (h : k < 5) (b : Byte) : (s.dfStoreInfo k h b).rd = s.rd := rfl
@[simp] theorem State.dfStoreInfo_rdValid (k : Nat) (h : k < 5) (b : Byte) : (s.dfStoreInfo k h b).rdValid = s.rdValid := rfl
@[simp] theorem State.dfStoreInfo_htValid (k : Nat) (h : k < 5) (b : Byte) : (s.dfStoreInfo k h b).htValid = s.htValid := rfl
@[simp] theorem State.dfStoreInfo_htGoodCount (k : Nat) (h : k < 5) (b : Byte) : (s.dfStoreInfo k h b).htGoodCount = s.htGoodCount := rfl
@[simp] theorem State.dfStoreInfo_htBadStreak (k : Nat) (h : k < 5) (b : Byte) : (s.dfStoreInfo k h b).htBadStreak = s.htBadStreak := rfl
@[simp] theorem State.dfStoreInfo_htLastGood (k : Nat) (h : k < 5) (b : Byte) : (s.dfStoreInfo k h b).htLastGood = s.htLastGood := rfl
@[simp] theorem State.dfStoreInfo_htResetThreshold (k : Nat) (h : k < 5) (b : Byte) : (s.dfStoreInfo k h b).htResetThreshold = s.htResetThreshold := rfl
@[simp] theorem State.dfStoreInfo_htQualityFlag (k : Nat) (h : k < 5) (b : Byte) : (s.dfStoreInfo k h b).htQualityFlag = s.htQualityFlag := rfl
@[simp] theorem State.dfStoreInfo_rcState (k : Nat) (h : k < 5) (b : Byte) : (s.dfStoreInfo k h b).rcState = s.rcState := rfl
@[simp] theorem State.dfStoreInfo_rcT0 (k : Nat) (h : k < 5) (b : Byte) : (s.dfStoreInfo k h b).rcT0 = s.rcT0 := rfl
@[simp] theorem State.dfStoreInfo_sysFault (k : Nat) (h : k < 5) (b : Byte) : (s.dfStoreInfo k h b).sysFault = s.sysFault := rfl
@[simp] theorem State.dfStoreInfo_cmdIn (k : Nat) (h : k < 5) (b : Byte) : (s.dfStoreInfo k h b).cmdIn = s.cmdIn := rfl
@[simp] theorem State.dfStoreInfo_resp (k : Nat) (h : k < 5) (b : Byte) : (s.dfStoreInfo k h b).resp = s.resp := rfl
@[simp] theorem State.dfStoreInfo_events (k : Nat) (h : k < 5) (b : Byte) : (s.dfStoreInfo k h b).events = s.events := rfl

end Sys2Proof.Machine
end

