-- ==== Sys2Proof/Laws/Deframer.lean ====
section
/-! SUPPORT. What each shared operation of the deframer can answer, said once. -/

namespace Sys2Proof.Machine

/-- Answering a command always goes on. -/
@[simp] theorem State.respond_eq (s : State) (code : RespCode) (val : Word) (evs : List Event) :
    s.respond code val evs = .next (s.answer code val evs) := rfl

/-- Raising a fault always goes on. -/
@[simp] theorem State.raise_eq (s : State) (c : FaultCode) : s.raise c = .next (s.raiseFault c) := rfl

/-- `fail(r)` always goes on, in the state the rules R145 and R146 give. -/
theorem State.dfFail_eq (s : State) (r : DfResult) : s.dfFail r = .next (s.afterFailure r) := by
  unfold State.dfFail State.afterFailure minFrame
  split
  · next h =>
    have : ¬ 47 - s.dfCnt.toNat = 0 := by omega
    simp [State.answer, this]
  · next h =>
    have : 47 - s.dfCnt.toNat = 0 := by omega
    simp [State.answer, this, DfResult.word]

/-- `unstuff` is the escape table. -/
theorem unstuff_eq_some (e v : Byte) : unstuff e = some v ↔ (e, v) ∈ escapeTable := by
  unfold unstuff escapeTable
  constructor
  · intro h
    split at h
    · simp_all
    split at h
    · simp_all
    split at h
    · simp_all
    split at h
    · simp_all
    · exact absurd h (by simp)
  · intro h
    simp only [List.mem_cons, Prod.mk.injEq, List.not_mem_nil, or_false] at h
    rcases h with ⟨rfl, rfl⟩ | ⟨rfl, rfl⟩ | ⟨rfl, rfl⟩ | ⟨rfl, rfl⟩ <;> rfl

/-- De-stuffing: a bad escape, a marker, or a delivered value. -/
theorem State.dfDestuff_cases (deliver : Byte → State → Out) (b : Byte) (s : State) :
    (s.dfEsc = true ∧ unstuff b = none ∧ s.dfDestuff deliver b = s.dfFail .badEscape) ∨
    (s.dfEsc = false ∧ b = 0x7D#8 ∧
      s.dfDestuff deliver b = .next ({ s with dfEsc := true }.answer .pending 0#32 [])) ∨
    (∃ v, s.Delivers b v ∧ s.dfDestuff deliver b = deliver v { s with dfEsc := false }) := by
  unfold State.dfDestuff State.Delivers
  cases he : s.dfEsc
  · by_cases hb : b = 0x7D#8
    · exact .inr (.inl ⟨rfl, hb, by simp [escMarker, hb]⟩)
    · refine .inr (.inr ⟨b, .inl ⟨rfl, hb, rfl⟩, ?_⟩)
      simp only [Bool.false_eq_true, if_false, escMarker, hb]
      rw [← he]
  · cases hu : unstuff b with
    | none => exact .inl ⟨rfl, rfl, by simp⟩
    | some v => exact .inr (.inr ⟨v, .inr ⟨rfl, (unstuff_eq_some b v).1 hu⟩, by simp⟩)

/-- A delivered payload value (R139): the store, the sum, and one of the two phases; or an index past the cells. -/
theorem State.dfPayload_cases (v : Byte) (s : State) :
    (s.dfIdx.toNat < 39 ∧ s.dfPayload v =
      .next ({ s with buf := s.buf.write s.dfIdx.toNat v, dfSum := s.dfSum + v, dfIdx := s.dfIdx + 1 }.answer
        .pending 0#32 [])) ∨
    (s.dfIdx.toNat = 39 ∧ s.dfPayload v =
      .next ({ s with buf := s.buf.write s.dfIdx.toNat v, dfSum := s.dfSum + v, dfPhase := .chk }.answer
        .pending 0#32 [])) ∨
    (40 ≤ s.dfIdx.toNat ∧ s.dfPayload v = .fault .noSuchCell) := by
  unfold State.dfPayload bufCells
  split
  · split
    · exact .inr (.inl ⟨by assumption, by simp⟩)
    · exact .inl ⟨by omega, by simp⟩
  · exact .inr (.inr ⟨by omega, rfl⟩)

/-- A delivered checksum value (R141). -/
theorem State.dfChecksum_cases (v : Byte) (s : State) :
    (v = ~~~s.dfSum ∧ s.dfChecksum v = .next ({ s with dfPhase := .fin }.answer .pending 0#32 [])) ∨
    (v ≠ ~~~s.dfSum ∧ s.dfChecksum v = .next (s.afterFailure .badChecksum)) := by
  unfold State.dfChecksum
  split
  · exact .inl ⟨by assumption, rfl⟩
  · exact .inr ⟨by assumption, s.dfFail_eq _⟩

/-- The end byte (R142, R143). -/
theorem State.dfEnd_cases (b : Byte) (s : State) :
    (b = 0x7E#8 ∧ s.dfEnd b =
      .next ({ s with rd := s.buf.reading, rdValid := true, dfResult := .ok, dfPhase := .idle }.answer .done 0#32 [])) ∨
    (b ≠ 0x7E#8 ∧ s.dfEnd b = .next (s.afterFailure .badEnd)) := by
  unfold State.dfEnd frameDelim
  split
  · exact .inl ⟨by assumption, rfl⟩
  · exact .inr ⟨by assumption, s.dfFail_eq _⟩

/-- A drained byte (R144). -/
theorem State.dfDrop_cases (s : State) :
    (s.dfDrain - 1 = 0#6 ∧ s.dfDrop =
      .next ({ s with dfDrain := s.dfDrain - 1, dfPhase := .idle }.answer .fail s.dfResult.word [])) ∨
    (s.dfDrain - 1 ≠ 0#6 ∧ s.dfDrop = .next ({ s with dfDrain := s.dfDrain - 1 }.answer .pending 0#32 [])) := by
  unfold State.dfDrop
  split
  · exact .inl ⟨by assumption, rfl⟩
  · exact .inr ⟨by assumption, rfl⟩

/-- An info byte (R136, R137): stored and counted, the device-state test with the fifth, or an index past the
registers. -/
theorem State.dfInfoByte_cases (b : Byte) (s : State) :
    (∃ h : s.dfIdx.toNat < 4, s.dfInfoByte b =
      .next ({ s.dfStoreInfo s.dfIdx.toNat (by omega) b with dfIdx := s.dfIdx + 1 }.answer .pending 0#32 [])) ∨
    (∃ h : s.dfIdx.toNat = 4, s.dfInfo[3] = 0x00#8 ∧ s.dfInfoByte b =
      .next ({ s.dfStoreInfo s.dfIdx.toNat (by omega) b with dfPhase := .data, dfIdx := 0#6 }.answer .pending 0#32 [])) ∨
    (∃ h : s.dfIdx.toNat = 4, s.dfInfo[3] ≠ 0x00#8 ∧ s.dfInfoByte b =
      .next ((s.dfStoreInfo s.dfIdx.toNat (by omega) b).afterFailure .devError)) ∨
    (5 ≤ s.dfIdx.toNat ∧ s.dfInfoByte b = .fault .noSuchCell) := by
  unfold State.dfInfoByte
  split
  · next h5 =>
    by_cases h4 : s.dfIdx.toNat < 4
    · exact .inl ⟨h4, by simp [h4]⟩
    · have h4' : s.dfIdx.toNat = 4 := by omega
      have h3 : (s.dfStoreInfo s.dfIdx.toNat h5 b).dfInfo[3] = s.dfInfo[3] := by
        simp only [State.dfStoreInfo_dfInfo]
        exact Vector.getElem_set_ne _ _ (by omega)
      by_cases hz : s.dfInfo[3] = 0x00#8
      · refine .inr (.inl ⟨h4', hz, ?_⟩)
        simp only [h4, if_false, State.dfDeviceTest, h3, hz, ne_eq, not_true_eq_false]
        rfl
      · refine .inr (.inr (.inl ⟨h4', hz, ?_⟩))
        simp only [h4, if_false, State.dfDeviceTest, h3, hz, ne_eq, not_false_eq_true, if_true]
        exact State.dfFail_eq _ _
  · exact .inr (.inr (.inr ⟨by omega, rfl⟩))

end Sys2Proof.Machine
end

