-- ==== Sys2Proof/Laws/Health.lean ====
section
/-! SUPPORT. What the shared operations of the health tracker and of the recovery sequencer can answer, said once. -/

namespace Sys2Proof.Machine

/-- `elapsed` as arithmetic on numbers. -/
theorem elapsed_toNat (now t : Word) : (elapsed now t).toNat = elapsedNat now t := by
  simp only [elapsed, elapsedNat, BitVec.toNat_sub]
  congr 1
  omega

/-- `satInc` as arithmetic on numbers. -/
theorem satInc_toNat {n : Nat} (v : BitVec n) : (satInc v).toNat = min (v.toNat + 1) (2 ^ n - 1) := by
  have := v.isLt
  simp only [satInc, BitVec.toNat_ofNat]
  exact Nat.mod_eq_of_lt (by omega)

/-- A log of `n` failures alone. -/
@[simp] theorem failuresSince_replicate (n : Nat) : failuresSince (List.replicate n false) = n := by
  induction n with
  | zero => rfl
  | succ n ih => rw [List.replicate_succ, failuresSince, ih]

/-- The age check either fires or does not. -/
theorem State.ageCheck_cases (now : Word) (s : State) :
    (s.htResetThreshold.toNat ≤ elapsedNat now s.htLastGood ∧
      s.ageCheck now = .next ((s.startRecovery now).answer .ok 1#32 [.trigger, .pwrOff])) ∨
    (elapsedNat now s.htLastGood < s.htResetThreshold.toNat ∧
      s.ageCheck now = .next (s.answer .ok 0#32 [])) := by
  rw [← elapsed_toNat]
  unfold State.ageCheck
  split
  · next h => exact .inl ⟨BitVec.le_def.1 h, rfl⟩
  · next h => exact .inr ⟨Nat.lt_of_not_le (fun h' => h (BitVec.le_def.2 h')), rfl⟩

/-- A health report: the fault before `HT_INIT`, the refusal while a recovery runs, or the counted report with its age
check. -/
theorem execHtGood_cases (now : Word) (s : State) :
    (s.htValid = false ∧ execHtGood now s = .next (s.raiseFault .htUninit)) ∨
    (s.htValid = true ∧ s.rcState ≠ .idle ∧ execHtGood now s = .next (s.answer .busy 0#32 [])) ∨
    (s.htValid = true ∧ s.rcState = .idle ∧ execHtGood now s = (s.countGood now).ageCheck now) := by
  unfold execHtGood
  cases hv : s.htValid
  · exact .inl ⟨rfl, rfl⟩
  · by_cases hr : s.rcState = .idle
    · exact .inr (.inr ⟨rfl, hr, by simp [State.rcBusy, hr]⟩)
    · exact .inr (.inl ⟨rfl, hr, by simp [State.rcBusy, hr, State.refuseBusy, State.respond]⟩)

/-- The same for a failure report. -/
theorem execHtBad_cases (now : Word) (s : State) :
    (s.htValid = false ∧ execHtBad now s = .next (s.raiseFault .htUninit)) ∨
    (s.htValid = true ∧ s.rcState ≠ .idle ∧ execHtBad now s = .next (s.answer .busy 0#32 [])) ∨
    (s.htValid = true ∧ s.rcState = .idle ∧ execHtBad now s = s.countBad.ageCheck now) := by
  unfold execHtBad
  cases hv : s.htValid
  · exact .inl ⟨rfl, rfl⟩
  · by_cases hr : s.rcState = .idle
    · exact .inr (.inr ⟨rfl, hr, by simp [State.rcBusy, hr]⟩)
    · exact .inr (.inl ⟨rfl, hr, by simp [State.rcBusy, hr, State.refuseBusy, State.respond]⟩)

/-- The sequence makes no transition, enters the next wait, or completes. -/
theorem State.rcAdvance_cases (p : Config.Params) (now : Word) (s : State) :
    s.rcAdvance p now = (s, []) ∨
    (s.rcState = .offWait ∧ p.tOff.toNat ≤ elapsedNat now s.rcT0 ∧
      s.rcAdvance p now = (s.enterWait .onWait now, [.pwrOn])) ∨
    (s.rcState = .onWait ∧ p.tOn.toNat ≤ elapsedNat now s.rcT0 ∧ p.hasClean = true ∧
      s.rcAdvance p now = (s.enterWait .cleanWait now, [.fanClean])) ∨
    (s.rcState = .onWait ∧ p.tOn.toNat ≤ elapsedNat now s.rcT0 ∧ p.hasClean = false ∧
      s.rcAdvance p now = (s.completeRecovery now, [])) ∨
    (s.rcState = .cleanWait ∧ p.tClean.toNat ≤ elapsedNat now s.rcT0 ∧
      s.rcAdvance p now = (s.completeRecovery now, [])) := by
  rw [← elapsed_toNat]
  unfold State.rcAdvance
  cases hs : s.rcState
  · exact .inl rfl
  · by_cases h : p.tOff.toNat ≤ (elapsed now s.rcT0).toNat <;> simp [BitVec.le_def, h]
  · by_cases h : p.tOn.toNat ≤ (elapsed now s.rcT0).toNat <;> cases p.hasClean <;> simp [BitVec.le_def, h]
  · by_cases h : p.tClean.toNat ≤ (elapsed now s.rcT0).toNat <;> simp [BitVec.le_def, h]

end Sys2Proof.Machine
end

