-- ==== Sys2Proof/Laws/PerInstr.lean ====
section
/-! SUPPORT. Per command: the word the encoder writes selects the row of opcode_table.json with the command's
mnemonic (R91). -/

namespace Sys2Proof.Laws

open Sys2Proof.Machine

/-- The command's word selects its row of the table. -/
abbrev TableRowOf.Statement (i : Instr) : Prop :=
  ∃ r ∈ opcodeTable, r.mnemonic = i.mnemonic ∧ r.selects (encode i) = true

/-- A byte laid out in `arg[7:0]` leaves the bits above it 0. -/
theorem byteArg_masked (b : Byte) : byteArg b &&& 0xFFFFFF00#32 = 0#32 := by
  have := (zeroBitsClear_B (byteArg b)).2 (by have := b.isLt; simp [byteArg]; omega)
  simpa [Format.zeroBitsClear, Format.zeroMask] using this

/-- The same for `peek` and `avail`. -/
theorem startArg_masked (avail : BitVec 16) (peek : Byte) : startArg avail peek &&& 0xFF000000#32 = 0#32 := by
  have h0 : (startArg avail peek).extractLsb' 24 8 = 0#8 := by
    unfold startArg
    ext i hi
    simp only [BitVec.getElem_extractLsb', BitVec.getLsbD_append]
    simp [show ¬ 24 + i < 8 by omega, show ¬ 24 + i - 8 < 16 by omega]
  have := (zeroBitsClear_S (startArg avail peek)).2 ((highField_eq_zero 24 8 rfl _).1 h0)
  simpa [Format.zeroBitsClear, Format.zeroMask] using this

/-- The same for an index. -/
theorem indexArg_masked (i : BitVec 4) : indexArg i &&& 0xFFFFFFF0#32 = 0#32 := by
  have := (zeroBitsClear_I (indexArg i)).2 (by have := i.isLt; simp [indexArg]; omega)
  simpa [Format.zeroBitsClear, Format.zeroMask] using this

/-- Masking an opcode and an operand separately. -/
theorem append_masked (op : Byte) (arg m : Word) : (op ++ arg) &&& (0xFF#8 ++ m) = op ++ (arg &&& m) := by
  rw [BitVec.and_append]
  congr 1
  exact BitVec.and_allOnes (x := op)

namespace TableRowOf

theorem sysStatus : Statement .sysStatus := by decide
theorem s8Init : Statement .s8Init := by decide
theorem s8Read : Statement .s8Read := by decide
theorem c16Init : Statement .c16Init := by decide
theorem c16Read : Statement .c16Read := by decide
theorem c8Init : Statement .c8Init := by decide
theorem c8Read : Statement .c8Read := by decide
theorem dfEmpty : Statement .dfEmpty := by decide
theorem htQgood : Statement .htQgood := by decide
theorem htQflag : Statement .htQflag := by decide

/-- A row whose mask is an opcode mask and an operand mask selects a word with that opcode and a masked operand. -/
theorem of_masked {i : Instr} {m : Word} (op : Byte) (r : TableRow) (hr : r ∈ opcodeTable) (hn : r.mnemonic = i.mnemonic)
    (hm : r.mask = 0xFF#8 ++ m) (hp : r.pattern = op ++ 0#32) (ho : i.opcode = op) (ha : i.arg &&& m = 0#32) : Statement i :=
  ⟨r, hr, hn, by simp only [TableRow.selects, encode, hm, hp, ho, append_masked, ha, beq_self_eq_true]⟩

theorem s8Byte (b : Byte) : Statement (.s8Byte b) :=
  of_masked 0x11#8 ⟨"S8_BYTE", 0x1100000000#40, 0xFFFFFFFF00#40⟩ (by decide) rfl (by decide) (by decide) rfl (byteArg_masked b)
theorem s8Check (c : Byte) : Statement (.s8Check c) :=
  of_masked 0x13#8 ⟨"S8_CHECK", 0x1300000000#40, 0xFFFFFFFF00#40⟩ (by decide) rfl (by decide) (by decide) rfl (byteArg_masked c)
theorem c16Byte (b : Byte) : Statement (.c16Byte b) :=
  of_masked 0x21#8 ⟨"C16_BYTE", 0x2100000000#40, 0xFFFFFFFF00#40⟩ (by decide) rfl (by decide) (by decide) rfl (byteArg_masked b)
theorem c8Byte (b : Byte) : Statement (.c8Byte b) :=
  of_masked 0x31#8 ⟨"C8_BYTE", 0x3100000000#40, 0xFFFFFFFF00#40⟩ (by decide) rfl (by decide) (by decide) rfl (byteArg_masked b)
theorem c8Check (c : Byte) : Statement (.c8Check c) :=
  of_masked 0x33#8 ⟨"C8_CHECK", 0x3300000000#40, 0xFFFFFFFF00#40⟩ (by decide) rfl (by decide) (by decide) rfl (byteArg_masked c)
theorem dfStart (avail : BitVec 16) (peek : Byte) : Statement (.dfStart avail peek) :=
  of_masked 0x40#8 ⟨"DF_START", 0x4000000000#40, 0xFFFF000000#40⟩ (by decide) rfl (by decide) (by decide) rfl (startArg_masked avail peek)
theorem dfByte (b : Byte) : Statement (.dfByte b) :=
  of_masked 0x41#8 ⟨"DF_BYTE", 0x4100000000#40, 0xFFFFFFFF00#40⟩ (by decide) rfl (by decide) (by decide) rfl (byteArg_masked b)
theorem dfRead (i : BitVec 4) : Statement (.dfRead i) :=
  of_masked 0x43#8 ⟨"DF_READ", 0x4300000000#40, 0xFFFFFFFFF0#40⟩ (by decide) rfl (by decide) (by decide) rfl (indexArg_masked i)
theorem htInit (now : Word) : Statement (.htInit now) :=
  of_masked 0x50#8 ⟨"HT_INIT", 0x5000000000#40, 0xFF00000000#40⟩ (by decide) rfl (by decide) (by decide) rfl (BitVec.and_zero (x := now))
theorem htGood (now : Word) : Statement (.htGood now) :=
  of_masked 0x51#8 ⟨"HT_GOOD", 0x5100000000#40, 0xFF00000000#40⟩ (by decide) rfl (by decide) (by decide) rfl (BitVec.and_zero (x := now))
theorem htBad (now : Word) : Statement (.htBad now) :=
  of_masked 0x52#8 ⟨"HT_BAD", 0x5200000000#40, 0xFF00000000#40⟩ (by decide) rfl (by decide) (by decide) rfl (BitVec.and_zero (x := now))
theorem htSetthr (thr : Word) : Statement (.htSetthr thr) :=
  of_masked 0x53#8 ⟨"HT_SETTHR", 0x5300000000#40, 0xFF00000000#40⟩ (by decide) rfl (by decide) (by decide) rfl (BitVec.and_zero (x := thr))
theorem rcTick (now : Word) : Statement (.rcTick now) :=
  of_masked 0x60#8 ⟨"RC_TICK", 0x6000000000#40, 0xFF00000000#40⟩ (by decide) rfl (by decide) (by decide) rfl (BitVec.and_zero (x := now))

end TableRowOf

end Sys2Proof.Laws
end

