-- ==== Sys2Proof/Tests/Slice0.lean ====
section
/-! SUPPORT. Tests: the well-formedness check, the decoding of every command's word, single steps with the spec's own
worked examples, and for each statement with hypotheses a state and operands that meet them. Expected results are the
spec's; the rule is named at each. -/

namespace Sys2Proof.Tests

open Sys2Proof Sys2Proof.Machine

/-! ## Helpers -/

/-- The state after a step, when the step goes on. -/
def after (o : Out) : Option State :=
  match o with
  | .next s => some s
  | .fault _ => none
  | .refused _ => none

/-- The response of a step as numbers. -/
def answerOf (o : Out) : Option (Nat × Nat) :=
  match after o with
  | some s => s.resp.map fun r => (r.code.val.toNat, r.val.toNat)
  | none => none

/-- One field of the state after a step. -/
def field {α : Type} (f : State → α) (o : Out) : Option α := (after o).map f

/-- Reset, with one command word presented. -/
def port (w : CommandWord) : State := State.reset.present w

/-- An attempt in phase `p` with `n` bytes taken and index `k`. -/
def inPhase (p : Phase) (n : BitVec 7) (k : BitVec 6) : State :=
  { State.reset with dfPhase := p, dfCnt := n, dfIdx := k }

/-- A drain of `n` bytes after `r`. -/
def draining (r : DfResult) (c : BitVec 7) (n : BitVec 6) : State :=
  { State.reset with dfPhase := .drain, dfResult := r, dfCnt := c, dfDrain := n }

/-- The health state with the values the worked examples of R173 to R175 start from. -/
def healthy (streak : BitVec 16) : State :=
  { State.reset with htValid := true, htGoodCount := 1#32, htBadStreak := streak, htLastGood := 1000#32,
                     htQualityFlag := true }

/-- A recovery in step `r`, entered at `t`. -/
def recovering (r : RcState) (t : Word) : State := { healthy 3#16 with rcState := r, rcT0 := t, htLastGood := t }

/-- Parameters of an SPS30 instance and of an instance without the fan-clean step. -/
def sps30 : Config.Params := ⟨2000#32, 3000#32, 4000#32, true⟩
def plain : Config.Params := ⟨20000#32, 3000#32, 4000#32, false⟩

/-! ## Well-formedness: an ill-formed term for the one check, and the last index it admits -/

theorem test_wellFormed_refuses_index_10 : (Instr.dfRead 10#4).wellFormed = false := by decide
theorem test_wellFormed_refuses_index_15 : (Instr.dfRead 15#4).wellFormed = false := by decide
theorem test_wellFormed_admits_index_9 : (Instr.dfRead 9#4).wellFormed = true := by decide

/-! ## Decoding: the words of R80, R81, R83 written out -/

theorem test_decode_sysStatus : decode 0x0000000000#40 = .ok .sysStatus := by decide
theorem test_decode_s8Init : decode 0x1000000000#40 = .ok .s8Init := by decide
theorem test_decode_s8Byte : decode 0x1100000003#40 = .ok (.s8Byte 3#8) := by decide
theorem test_decode_s8Read : decode 0x1200000000#40 = .ok .s8Read := by decide
theorem test_decode_s8Check : decode 0x13000000FC#40 = .ok (.s8Check 0xFC#8) := by decide
theorem test_decode_c16Init : decode 0x2000000000#40 = .ok .c16Init := by decide
theorem test_decode_c16Byte : decode 0x2100000031#40 = .ok (.c16Byte 0x31#8) := by decide
theorem test_decode_c16Read : decode 0x2200000000#40 = .ok .c16Read := by decide
theorem test_decode_c8Init : decode 0x3000000000#40 = .ok .c8Init := by decide
theorem test_decode_c8Byte : decode 0x3100000001#40 = .ok (.c8Byte 1#8) := by decide
theorem test_decode_c8Read : decode 0x3200000000#40 = .ok .c8Read := by decide
theorem test_decode_c8Check : decode 0x33000000B0#40 = .ok (.c8Check 0xB0#8) := by decide
theorem test_decode_dfStart :
    decode 0b0100000000000000000000000010111101111110#40 = .ok (.dfStart 47#16 0x7E#8) := by decide
theorem test_decode_dfByte : decode 0x410000007E#40 = .ok (.dfByte 0x7E#8) := by decide
theorem test_decode_dfEmpty : decode 0x4200000000#40 = .ok .dfEmpty := by decide
theorem test_decode_dfRead : decode 0x4300000009#40 = .ok (.dfRead 9#4) := by decide
theorem test_decode_htInit : decode 0x50000003E8#40 = .ok (.htInit 1000#32) := by decide
theorem test_decode_htGood : decode 0x5100001770#40 = .ok (.htGood 6000#32) := by decide
theorem test_decode_htBad : decode 0x5200125368#40 = .ok (.htBad 1201000#32) := by decide
theorem test_decode_htSetthr : decode 0x53000927C0#40 = .ok (.htSetthr 600000#32) := by decide
theorem test_decode_htQgood : decode 0x5400000000#40 = .ok .htQgood := by decide
theorem test_decode_htQflag : decode 0x5500000000#40 = .ok .htQflag := by decide
theorem test_decode_rcTick : decode 0x6000125B38#40 = .ok (.rcTick 1203000#32) := by decide

/-- R85, R216: the opcode is tested before the operand; an index of 10 is an illegal operand. -/
theorem test_decode_illegal :
    decode 0x7000000001#40 = .error .illOpcode ∧ decode 0x2300000000#40 = .error .illOpcode ∧
    decode 0x1100000100#40 = .error .illOperand ∧ decode 0x4001000000#40 = .error .illOperand ∧
    decode 0x430000000A#40 = .error .illOperand := by decide

/-- The host's numbering: an operand with no bits in `w` is zero. -/
theorem test_decodeTableWord : decodeTableWord 40 0x1100000003 = some (.s8Byte 3#8) ∧
    decodeTableWord 40 0x7000000000 = none := by decide

/-- The word placed for the fetch is the one the next step runs. -/
theorem test_withFetchWord :
    field (·.s8Acc) (step (State.reset.withFetchWord 40 0x1100000003)) = some 3#8 := by decide

/-! ## Single steps: the worked examples of the rules -/

/-- R102: the carry is dropped. -/
theorem test_s8Byte_wraps : field (·.s8Acc) (exec (.s8Byte 1#8) { State.reset with s8Acc := 0xFF#8 }) = some 0#8 := by
  decide
/-- R103, R104. -/
theorem test_s8Read : answerOf (exec .s8Read { State.reset with s8Acc := 3#8 }) = some (0, 0xFC) := by decide
theorem test_s8Check : answerOf (exec (.s8Check 0xFC#8) { State.reset with s8Acc := 3#8 }) = some (0, 1) ∧
    answerOf (exec (.s8Check 0xFD#8) { State.reset with s8Acc := 3#8 }) = some (0, 0) := by decide
/-- R112, R113. -/
theorem test_c16Byte : field (·.c16Acc) (exec (.c16Byte 0x31#8) State.reset) = some 0x947E#16 := by decide
theorem test_c16Byte_zero : field (·.c16Acc) (exec (.c16Byte 0x00#8) State.reset) = some 0x40BF#16 := by decide
/-- R114: the check value of "123456789". -/
theorem test_crc16_check :
    crc16 [0x31#8, 0x32#8, 0x33#8, 0x34#8, 0x35#8, 0x36#8, 0x37#8, 0x38#8, 0x39#8] = 0x4B37#16 := by decide +kernel
/-- R122, R124. -/
theorem test_c8Byte : field (·.c8Acc) (exec (.c8Byte 0x00#8) State.reset) = some 0xAC#8 := by decide
theorem test_c8Byte_next :
    field (·.c8Acc) (exec (.c8Byte 0x01#8) { State.reset with c8Acc := 0xAC#8 }) = some 0xB0#8 := by decide
theorem test_c8Check : answerOf (exec (.c8Check 0xB0#8) { State.reset with c8Acc := 0xB0#8 }) = some (0, 1) ∧
    answerOf (exec (.c8Check 0xB1#8) { State.reset with c8Acc := 0xB0#8 }) = some (0, 0) := by decide
/-- R134: 47 is enough and 46 is not; a bad first byte comes before the count. -/
theorem test_dfStart : answerOf (exec (.dfStart 47#16 0x7E#8) State.reset) = some (1, 0) ∧
    answerOf (exec (.dfStart 46#16 0x7E#8) State.reset) = some (3, 2) := by decide
theorem test_dfStart_bad : answerOf (exec (.dfStart 46#16 0x7D#8) State.reset) = some (1, 0) ∧
    field (·.dfDrain) (exec (.dfStart 46#16 0x7D#8) State.reset) = some 60#6 := by decide
/-- R135, R136: the start byte is stored and not summed. -/
theorem test_dfByte_info : field (fun s => (s.dfInfo[0], s.dfIdx, s.dfCnt, s.dfSum))
    (exec (.dfByte 0x7E#8) (inPhase .info 0#7 0#6)) = some (0x7E#8, 1#6, 1#7, 0#8) := by decide
/-- R137, R206: after a device error 42 bytes are drained and the status word is 0x450. -/
theorem test_dfByte_devError :
    field (fun s => (s.dfDrain, s.statusWord))
      (exec (.dfByte 0x28#8) { inPhase .info 4#7 4#6 with dfInfo := #v[0x7E#8, 0#8, 3#8, 1#8, 0#8] }) =
      some (42#6, 0x450#32) := by decide
/-- R147. -/
theorem test_dfEmpty : answerOf (exec .dfEmpty (draining .badStart 10#7 50#6)) = some (3, 3) ∧
    answerOf (exec .dfEmpty (inPhase .fin 46#7 39#6)) = some (3, 8) := by decide
/-- R150, R216. -/
theorem test_dfRead : answerOf (exec (.dfRead 0#4) State.reset) = some (15, 5) ∧
    answerOf (step (port 0x430000000A#40)) = some (15, 2) := by decide
/-- R172 and R176: the count starts at 1. -/
theorem test_htInit : field (·.htGoodCount) (exec (.htInit 1000#32) State.reset) = some 1#32 := by decide
/-- R173. -/
theorem test_htGood : field (fun s => (s.htGoodCount, s.htBadStreak, s.htLastGood, s.events))
    (exec (.htGood 6000#32) (healthy 4#16)) = some (2#32, 0#16, 6000#32, []) := by decide
/-- R174: the fifth failure clears the flag. -/
theorem test_htBad_fifth : field (fun s => (s.htBadStreak, s.htQualityFlag, s.resp))
    (exec (.htBad 5000#32) (healthy 4#16)) = some (5#16, false, some ⟨.ok, 0#32⟩) := by decide
/-- R175: an age of the threshold fires, one millisecond less does not. -/
theorem test_htBad_age : answerOf (exec (.htBad 1200999#32) (healthy 1#16)) = some (0, 0) ∧
    field (fun s => (s.events, s.rcState, s.rcT0, s.htLastGood)) (exec (.htBad 1201000#32) (healthy 1#16)) =
      some ([.trigger, .pwrOff], .offWait, 1201000#32, 1201000#32) := by decide
/-- R178, R177. -/
theorem test_htQueries : answerOf (exec .htQgood State.reset) = some (15, 4) ∧
    answerOf (exec .htQflag (healthy 0#16)) = some (0, 1) := by decide
/-- R193: the worked example with `T_OFF_MS = 2000`. -/
theorem test_rcTick : answerOf ((recovering .offWait 1201000#32).rcTick sps30 1202999#32) = some (0, 1) ∧
    field (fun s => (s.events, s.rcState, s.rcT0)) ((recovering .offWait 1201000#32).rcTick sps30 1203000#32) =
      some ([.pwrOn], .onWait, 1203000#32) := by decide
/-- R206: the examples of the status word. -/
theorem test_sysStatus : answerOf (exec .sysStatus State.reset) = some (0, 0) ∧
    answerOf (exec .sysStatus { State.reset with htValid := true, rdValid := true, dfResult := .ok }) =
      some (0, 0x106) := by decide
theorem test_sysStatus_recovering : answerOf (exec .sysStatus (recovering .offWait 0#32)) = some (0, 0x100A) := by
  decide
/-- R133: the stuffing table. -/
theorem test_stuff : stuff [0x7E#8, 0x00#8, 0x7D#8, 0x11#8, 0x13#8] =
    [0x7D#8, 0x5E#8, 0x00#8, 0x7D#8, 0x5D#8, 0x7D#8, 0x31#8, 0x7D#8, 0x33#8] := by decide
/-- R89. -/
theorem test_asm : (Instr.dfStart 47#16 0x7E#8).asm = "DF_START 47, 126" := by decide

/-! ## Witnesses: a state and operands that meet all hypotheses of a clause together, clause by clause in the order of
the statement, at the bounds of each range -/

/-- The word with opcode `op` and operand `good` is presented and legal; with operand `bad` it is presented and not. -/
abbrev PortMeets (op : Byte) (legal : Word → Prop) (good bad : Word) : Prop :=
  (port (op ++ good)).cmdIn = [op ++ good] ∧ legal good ∧ (port (op ++ bad)).cmdIn = [op ++ bad] ∧ ¬ legal bad

theorem test_witness_InitCommandsLoadTheStartValue :
    PortMeets 0x10#8 (fun arg => arg = 0#32) 0#32 1#32 ∧ PortMeets 0x20#8 (fun arg => arg = 0#32) 0#32 1#32 ∧
    PortMeets 0x30#8 (fun arg => arg = 0#32) 0#32 0x80000000#32 := by decide

theorem test_witness_S8ByteAddsModulo256 :
    PortMeets 0x11#8 (fun arg => arg.extractLsb' 8 24 = 0#24) 0xFF#32 0x100#32 := by decide

theorem test_witness_C16ByteFoldsTheByteInEightShifts :
    PortMeets 0x21#8 (fun arg => arg.extractLsb' 8 24 = 0#24) 0xFF#32 0x100#32 := by decide

theorem test_witness_C8ByteFoldsTheByteInEightShifts :
    PortMeets 0x31#8 (fun arg => arg.extractLsb' 8 24 = 0#24) 0xFF#32 0x100#32 := by decide

theorem test_witness_ReadCommandsAnswerTheChecksum :
    PortMeets 0x12#8 (fun arg => arg = 0#32) 0#32 1#32 ∧ PortMeets 0x22#8 (fun arg => arg = 0#32) 0#32 1#32 ∧
    PortMeets 0x32#8 (fun arg => arg = 0#32) 0#32 1#32 := by decide

theorem test_witness_CheckCommandsCompareWithoutFolding :
    PortMeets 0x13#8 (fun arg => arg.extractLsb' 8 24 = 0#24) 0xFF#32 0x100#32 ∧
    PortMeets 0x33#8 (fun arg => arg.extractLsb' 8 24 = 0#24) 0xFF#32 0x100#32 ∧
    (255 - State.reset.s8Acc.toNat = (0xFF#8).toNat) ∧ (255 - State.reset.s8Acc.toNat ≠ (0xFE#8).toNat) ∧
    State.reset.c8Acc = 0xFF#8 ∧ State.reset.c8Acc ≠ 0xFE#8 := by decide

theorem test_witness_DfStartFourOutcomes :
    PortMeets 0x40#8 (fun arg => arg.extractLsb' 24 8 = 0#8) 0xFFFFFF#32 0x1000000#32 ∧
    (inPhase .info 0#7 0#6).dfPhase ≠ .idle ∧
    (State.reset.dfPhase = .idle ∧ (0#16) = 0#16) ∧
    (State.reset.dfPhase = .idle ∧ (1#16) ≠ 0#16 ∧ (0x7D#8) ≠ 0x7E#8) ∧
    (State.reset.dfPhase = .idle ∧ (46#16) ≠ 0#16 ∧ (0x7E#8) = 0x7E#8 ∧ (46#16).toNat < 47) ∧
    (State.reset.dfPhase = .idle ∧ (0x7E#8) = 0x7E#8 ∧ 47 ≤ (47#16).toNat ∧ 47 ≤ (0xFFFF#16).toNat) := by decide

theorem test_witness_DfByteTakesTheInfoBlock :
    ((inPhase .info 0#7 0#6).dfPhase = .info ∧ (inPhase .info 0#7 0#6).dfIdx.toNat < 4) ∧
    ((inPhase .info 3#7 3#6).dfPhase = .info ∧ (inPhase .info 3#7 3#6).dfIdx.toNat < 4) ∧
    (let s := { inPhase .info 4#7 4#6 with dfInfo := #v[0x7E#8, 0#8, 3#8, 0#8, 0#8] }
     s.dfPhase = .info ∧ s.dfIdx.toNat = 4 ∧ s.dfInfo[3] = 0x00#8) ∧
    (let s := inPhase .info 4#7 4#6
     s.dfPhase = .info ∧ s.dfIdx.toNat = 4 ∧ s.dfInfo[3] ≠ 0x00#8 ∧ s.dfCnt = 4#7) := by decide

theorem test_witness_DfByteEscapes :
    ((inPhase .data 5#7 0#6).dfPhase = .data ∧ (inPhase .data 5#7 0#6).dfEsc = false ∧ (0x7D#8) = 0x7D#8) ∧
    (let s := { inPhase .chk 46#7 39#6 with dfEsc := true }
     s.dfPhase = .chk ∧ s.dfEsc = true ∧ ∀ v, ((0x7E#8, v) : Byte × Byte) ∉ escapeTable) :=
  ⟨by decide, rfl, rfl, fun v h => by simp [escapeTable] at h⟩

theorem test_witness_DfByteStoresThePayload :
    (let s := inPhase .data 5#7 0#6
     s.dfPhase = .data ∧ s.dfIdx.toNat ≤ 39 ∧ s.buf.wf = true ∧ s.Delivers 0x7E#8 0x7E#8) ∧
    (let s := { inPhase .data 45#7 39#6 with dfEsc := true }
     s.dfPhase = .data ∧ s.dfIdx.toNat ≤ 39 ∧ s.buf.wf = true ∧ s.Delivers 0x5D#8 0x7D#8) := by decide

theorem test_witness_DfByteComparesTheChecksum :
    (let s := inPhase .chk 45#7 39#6
     s.dfPhase = .chk ∧ s.Delivers 0xFF#8 0xFF#8 ∧ (0xFF#8).toNat = 255 - s.dfSum.toNat) ∧
    (let s := { inPhase .chk 46#7 39#6 with dfEsc := true }
     s.dfPhase = .chk ∧ s.Delivers 0x31#8 0x11#8 ∧ (0x11#8).toNat ≠ 255 - s.dfSum.toNat) := by decide

theorem test_witness_DfByteEndsTheFrame :
    ((inPhase .fin 46#7 39#6).dfPhase = .fin ∧ (0x7E#8) = 0x7E#8) ∧
    ((inPhase .fin 46#7 39#6).dfPhase = .fin ∧ (0x7D#8) ≠ 0x7E#8 ∧ 46 ≤ (inPhase .fin 46#7 39#6).dfCnt.toNat ∧
      (inPhase .fin 46#7 39#6).dfCnt.toNat < 127) ∧
    (inPhase .fin 126#7 39#6).dfCnt.toNat < 127 := by decide

theorem test_witness_DfByteDrains :
    ((draining .badStart 59#7 1#6).dfPhase = .drain ∧ (draining .badStart 59#7 1#6).dfDrain.toNat = 1) ∧
    ((draining .badStart 0#7 60#6).dfPhase = .drain ∧ 1 < (draining .badStart 0#7 60#6).dfDrain.toNat) ∧
    1 < (draining .devError 45#7 2#6).dfDrain.toNat := by decide

theorem test_witness_DfEmptyEndsTheAttempt :
    PortMeets 0x42#8 (fun arg => arg = 0#32) 0#32 1#32 ∧
    State.reset.dfPhase = .idle ∧ (draining .badStart 0#7 60#6).dfPhase = .drain ∧
    ((inPhase .fin 46#7 39#6).dfPhase ≠ .idle ∧ (inPhase .fin 46#7 39#6).dfPhase ≠ .drain) := by decide

theorem test_witness_DfReadAnswersOneWord :
    PortMeets 0x43#8 (fun arg => arg.extractLsb' 4 28 = 0#28 ∧ (arg.extractLsb' 0 4).toNat ≤ 9) 9#32 10#32 ∧
    (9 < (10#4).toNat ∧ 9 < (15#4).toNat) ∧ ((9#4).toNat ≤ 9 ∧ State.reset.rdValid = false) ∧
    ((9#4).toNat < 10 ∧ { State.reset with rdValid := true }.rdValid = true) := by decide

theorem test_witness_DfByteCountsTheByte :
    PortMeets 0x41#8 (fun arg => arg.extractLsb' 8 24 = 0#24) 0xFF#32 0x100#32 ∧ State.reset.dfPhase = .idle ∧
    ((inPhase .fin 87#7 39#6).dfPhase ≠ .idle ∧ (inPhase .fin 87#7 39#6).DfInv) :=
  ⟨by decide, by decide, by decide, by decide⟩

theorem test_witness_AttemptEndsWithin89Commands :
    (inPhase .info 0#7 0#6).DfInv ∧ (inPhase .info 0#7 0#6).dfPhase ≠ .idle ∧
    (∀ i ∈ List.replicate 89 (Instr.dfByte 0x7E#8), feedsAttempt i = true) ∧
    (List.replicate 89 (Instr.dfByte 0x7E#8)).length = 89 := by
  refine ⟨by decide, by decide, fun i hi => ?_, List.length_replicate⟩
  rw [List.eq_of_mem_replicate hi]
  rfl

theorem test_witness_StuffedFrameRoundTrip :
    State.reset.dfPhase = .idle ∧ State.reset.buf.wf = true ∧ (List.replicate 40 0x7E#8).length = 40 :=
  ⟨rfl, rfl, List.length_replicate⟩

/-- The good frame of forty zero bytes with info bytes 00 03 00 28, whose checksum byte 0xD4 needs no escape. -/
theorem test_witness_SingleByteDamageNeverEndsInDoneAtTheSameLength :
    State.reset.dfPhase = .idle ∧ (List.replicate 40 0x00#8).length = 40 ∧ 0 < 40 ∧ 39 < 40 ∧
    stuff (List.replicate 40 0x00#8 ++ [frameChecksum [0x00#8, 0x03#8, 0x00#8, 0x28#8] (List.replicate 40 0x00#8)]) =
      List.replicate 40 0x00#8 ++ [0xD4#8] ∧
    (0x01#8) ≠ (List.replicate 40 0x00#8).getD 39 0 ∧ (0x7D#8) ≠ (List.replicate 40 0x00#8).getD 0 0 := by decide +kernel

theorem test_witness_BadStartDrainsUpTo60Bytes : State.reset.dfPhase = .idle ∧ (0x7D#8) ≠ 0x7E#8 := by decide

theorem test_witness_EveryStepKeepsTheChecksumCoverage :
    ∃ s t : State, s.buf.wf = true ∧ s.SumInv ∧ s.dfPhase = .data ∧ step s = .next t :=
  ⟨{ inPhase .data 5#7 0#6 with dfInfo := #v[0x7E#8, 0#8, 3#8, 0#8, 0x28#8], dfSum := 0x2B#8,
                                cmdIn := [0x4100000001#40] }, _, by decide, by decide, rfl, rfl⟩

theorem test_witness_ReadingChangesOnlyWithDone :
    ∃ s t : State, s.dfPhase = .fin ∧ step s = .next t ∧ t.resp = some ⟨.done, 0#32⟩ ∧
      t.rdValid ≠ s.rdValid ∧ t.rdValid = true :=
  ⟨{ inPhase .fin 46#7 39#6 with cmdIn := [0x410000007E#40] }, _, rfl, rfl, rfl, by decide, rfl⟩

theorem test_witness_ReadingChangesOnlyWithDone_kept :
    ∃ s t : State, s.rdValid = true ∧ step s = .next t :=
  ⟨{ State.reset with rdValid := true, cmdIn := [0x4200000000#40] }, _, rfl, rfl⟩

theorem test_witness_HtInitCreatesTheHealthState :
    (port (0x50#8 ++ 1000#32)).cmdIn = [0x50#8 ++ 1000#32] ∧ (recovering .onWait 0#32).rcState ≠ .idle ∧
    State.reset.rcState = .idle := by decide

theorem test_witness_HtGoodCountsASuccess :
    (port (0x51#8 ++ 6000#32)).cmdIn = [0x51#8 ++ 6000#32] ∧ State.reset.htValid = false ∧
    ((recovering .onWait 0#32).htValid = true ∧ (recovering .onWait 0#32).rcState ≠ .idle) ∧
    ((healthy 4#16).htValid = true ∧ (healthy 4#16).rcState = .idle ∧ (healthy 4#16).htResetThreshold ≠ 0#32) ∧
    (let s := { healthy 4#16 with htResetThreshold := 0#32 }
     s.htValid = true ∧ s.rcState = .idle ∧ s.htResetThreshold = 0#32) := by decide

theorem test_witness_HtBadCountsAFailureAndChecksTheAge :
    (port (0x52#8 ++ 5000#32)).cmdIn = [0x52#8 ++ 5000#32] ∧ State.reset.htValid = false ∧
    ((recovering .onWait 0#32).htValid = true ∧ (recovering .onWait 0#32).rcState ≠ .idle) ∧
    ((healthy 4#16).htValid = true ∧ (healthy 4#16).rcState = .idle ∧
      elapsedNat 1200999#32 (healthy 4#16).htLastGood < (healthy 4#16).htResetThreshold.toNat ∧
      (healthy 4#16).htResetThreshold.toNat ≤ elapsedNat 1201000#32 (healthy 4#16).htLastGood) ∧
    (healthy 0xFFFF#16).htValid = true := by decide

theorem test_witness_HtSetthrWritesOnlyTheThreshold :
    (port (0x53#8 ++ 600000#32)).cmdIn = [0x53#8 ++ 600000#32] := by decide

theorem test_witness_HealthQueriesAnswerTheirRegister :
    PortMeets 0x54#8 (fun arg => arg = 0#32) 0#32 1#32 ∧ PortMeets 0x55#8 (fun arg => arg = 0#32) 0#32 1#32 ∧
    State.reset.htValid = false ∧ (healthy 5#16).htValid = true := by decide

theorem test_witness_GoodCountOnlyIncreases :
    ∃ s t : State, exec (.htGood 6000#32) s = .next t ∧ (∀ now, Instr.htGood 6000#32 ≠ .htInit now) ∧
      t.htGoodCount ≠ s.htGoodCount :=
  ⟨healthy 4#16, _, rfl, fun _ h => (by cases h), by decide⟩

theorem test_witness_QualityFlagFalseIffLastFiveReportsFailed :
    ∃ (s t : State) (log : List Bool), State.reset.rcState = .idle ∧ exec (.htInit 1000#32) State.reset = .next s ∧
      runReports (List.replicate 5 (.htBad 2000#32)) s [] = some (t, log) ∧ 5 ≤ log.length ∧
      ∀ r ∈ log.take 5, r = false :=
  ⟨_, _, _, rfl, rfl, rfl, by decide, by decide⟩

theorem test_witness_RcTickMakesAtMostOneTransition :
    (port (0x60#8 ++ 0#32)).cmdIn = [0x60#8 ++ 0#32] ∧ State.reset.rcState = .idle ∧
    ((recovering .offWait 0#32).rcState = .offWait ∧ elapsedNat 1999#32 (recovering .offWait 0#32).rcT0 < sps30.tOff.toNat ∧
      sps30.tOff.toNat ≤ elapsedNat 2000#32 (recovering .offWait 0#32).rcT0) ∧
    ((recovering .onWait 0#32).rcState = .onWait ∧ elapsedNat 2999#32 (recovering .onWait 0#32).rcT0 < sps30.tOn.toNat ∧
      sps30.tOn.toNat ≤ elapsedNat 3000#32 (recovering .onWait 0#32).rcT0 ∧ sps30.hasClean = true ∧
      plain.tOn.toNat ≤ elapsedNat 3000#32 (recovering .onWait 0#32).rcT0 ∧ plain.hasClean = false) ∧
    ((recovering .cleanWait 0#32).rcState = .cleanWait ∧
      elapsedNat 3999#32 (recovering .cleanWait 0#32).rcT0 < sps30.tClean.toNat ∧
      sps30.tClean.toNat ≤ elapsedNat 4000#32 (recovering .cleanWait 0#32).rcT0) := by decide

theorem test_witness_OnlyTheAgeTriggerStartsARecovery :
    ∃ s t : State, exec (.htBad 1201000#32) s = .next t ∧ s.rcState = .idle ∧ t.rcState ≠ .idle ∧
      s.htResetThreshold.toNat ≤ elapsedNat 1201000#32 s.htLastGood ∧ .trigger ∈ t.events :=
  ⟨healthy 4#16, _, rfl, rfl, by decide, by decide, by decide⟩

/-- An `HT_GOOD` fires with a threshold of 0 (R173). -/
theorem test_witness_OnlyTheAgeTriggerStartsARecovery_good :
    ∃ s t : State, exec (.htGood 5#32) s = .next t ∧ s.rcState = .idle ∧ t.rcState ≠ .idle ∧
      s.htResetThreshold = 0#32 :=
  ⟨{ healthy 4#16 with htResetThreshold := 0#32 }, _, rfl, rfl, by decide, rfl⟩

/-- A tick that moves a running sequence, on the instance as it is: the elapsed time is `T_OFF_MS` itself. -/
theorem test_witness_OnlyTheAgeTriggerStartsARecovery_tick :
    ∃ t : State, exec (.rcTick Config.params.tOff) (recovering .offWait 0#32) = .next t ∧
      (recovering .offWait 0#32).rcState ≠ .idle ∧ t.rcState ≠ (recovering .offWait 0#32).rcState := by
  refine ⟨_, rfl, by decide, ?_⟩
  have h : Config.params.tOff ≤ elapsed Config.params.tOff 0#32 := by simp [elapsed]
  simp [State.rcAdvance, recovering, State.answer, h, State.enterWait]

theorem test_witness_RecoveryGivesItsEventsInOrder :
    (healthy 4#16).htValid = true ∧ (healthy 4#16).rcState = .idle ∧
    (healthy 4#16).htResetThreshold.toNat ≤ elapsedNat 1201000#32 (healthy 4#16).htLastGood ∧
    sps30.tOff.toNat ≤ elapsedNat 1203000#32 1201000#32 ∧ sps30.tOn.toNat ≤ elapsedNat 1206000#32 1203000#32 ∧
    sps30.tClean.toNat ≤ elapsedNat 1210000#32 1206000#32 ∧ sps30.hasClean = true ∧
    plain.tOff.toNat ≤ elapsedNat 1221000#32 1201000#32 ∧ plain.tOn.toNat ≤ elapsedNat 1224000#32 1221000#32 ∧
    plain.tClean.toNat ≤ elapsedNat 1228000#32 1224000#32 ∧ plain.hasClean = false := by decide

theorem test_witness_SysStatusShowsTheStatusWord : PortMeets 0x00#8 (fun arg => arg = 0#32) 0#32 1#32 := by decide

theorem test_witness_DecodeOfEncodeIsTheInstruction :
    (Instr.dfRead 9#4).wellFormed = true ∧ (Instr.dfStart 0xFFFF#16 0xFF#8).wellFormed = true := by decide

theorem test_witness_EncodeOfDecodeIsTheWord : decode 0x40FFFFFFFF#40 = .error .illOperand ∧
    decode 0x4000FFFFFF#40 = .ok (.dfStart 0xFFFF#16 0xFF#8) := by decide

theorem test_witness_DecodeFollowsTheTable :
    (∃ r ∈ opcodeTable, r.selects 0x1000000000#40 = true) ∧
    (∃ r ∈ opcodeTable, r.selects 0x430000000A#40 = true) ∧
    ((∀ r ∈ opcodeTable, r.selects 0x7000000000#40 = false) ∧
      ∀ r ∈ opcodeTable, r.pattern.extractLsb' 32 8 ≠ (0x7000000000#40).extractLsb' 32 8) ∧
    ((∀ r ∈ opcodeTable, r.selects 0x1000000001#40 = false) ∧
      ∃ r ∈ opcodeTable, r.pattern.extractLsb' 32 8 = (0x1000000001#40).extractLsb' 32 8) := by decide

theorem test_witness_StepRunsTheDecodedCommand :
    (port 0x1100000003#40).cmdIn = [0x1100000003#40] ∧ decode 0x1100000003#40 = .ok (.s8Byte 3#8) := by decide

theorem test_witness_StepAnswersIllegalWordsWithAFault :
    ((port 0x7000000000#40).cmdIn = [0x7000000000#40] ∧
      ∀ r ∈ opcodeTable, r.pattern.extractLsb' 32 8 ≠ (0x7000000000#40).extractLsb' 32 8) ∧
    ((port 0x1000000001#40).cmdIn = [0x1000000001#40] ∧
      (∃ r ∈ opcodeTable, r.pattern.extractLsb' 32 8 = (0x1000000001#40).extractLsb' 32 8) ∧
      ∀ r ∈ opcodeTable, r.selects 0x1000000001#40 = false) ∧
    ((port 0x430000000A#40).cmdIn = [0x430000000A#40] ∧
      (∃ r ∈ opcodeTable, r.pattern.extractLsb' 32 8 = (0x430000000A#40).extractLsb' 32 8) ∧
      (0x430000000A#40).extractLsb' 32 8 = 0x43#8 ∧ 9 < ((0x430000000A#40).extractLsb' 0 4).toNat) := by decide

theorem test_witness_EveryStepKeepsTheLegalStates :
    ∃ s t : State, s.Inv ∧ s.dfPhase = .chk ∧ step s = .next t :=
  ⟨{ inPhase .chk 45#7 39#6 with cmdIn := [0x41000000FF#40] }, _, ⟨by decide, by decide, by decide⟩, rfl, rfl⟩

theorem test_witness_NothingIsFatal :
    (inPhase .data 83#7 39#6).Inv ∧ (port 0x4300000009#40).Inv ∧ (port 0x4300000009#40).cmdIn = [0x4300000009#40] :=
  ⟨⟨by decide, by decide, by decide⟩, ⟨by decide, by decide, by decide⟩, rfl⟩

/-- One step for each of the five faults. -/
theorem test_witness_FaultsWriteOnlySysFault :
    answerOf (step (port 0x7000000000#40)) = some (15, 1) ∧ answerOf (step (port 0x430000000A#40)) = some (15, 2) ∧
    answerOf (step (port 0x4200000000#40)) = some (15, 3) ∧ answerOf (step (port 0x5400000000#40)) = some (15, 4) ∧
    answerOf (step (port 0x4300000009#40)) = some (15, 5) := by decide

theorem test_witness_SysFaultIsSticky :
    field (·.sysFault) (step (port 0x7000000000#40)) = some true ∧
    field (·.sysFault) (step { port 0x0000000000#40 with sysFault := true }) = some true := by decide

theorem test_witness_BusyChangesNothing :
    answerOf (exec (.htInit 0#32) (recovering .onWait 0#32)) = some (4, 0) ∧
    answerOf (exec (.htBad 0#32) (recovering .offWait 0#32)) = some (4, 0) ∧
    answerOf (exec (.htBad 5000#32) (healthy 4#16)) = some (0, 0) := by decide

theorem test_witness_ReadingCommandsHaveNoSideEffect :
    ∃ t : State, exec .htQgood (healthy 4#16) = .next t ∧ t.sysFault = (healthy 4#16).sysFault ∧
      Instr.htQgood.mnemonic ∈ ["DF_READ", "S8_READ", "C16_READ", "C8_READ", "S8_CHECK", "C8_CHECK", "HT_QGOOD",
        "HT_QFLAG", "SYS_STATUS"] :=
  ⟨_, rfl, rfl, by decide⟩

/-- A step that raises a fault anew, and the same command repeated. -/
theorem test_witness_ReadingCommandsHaveNoSideEffect_fault :
    ∃ t : State, exec .htQgood State.reset = .next t ∧ t.sysFault ≠ State.reset.sysFault ∧
      t.resp = some ⟨.fault, 4#32⟩ := ⟨_, rfl, by decide, rfl⟩

theorem test_witness_RegistersAreWrittenOnlyByTheirCommands :
    ∃ t : State, exec (.s8Byte 1#8) State.reset = .next t ∧ t.s8Acc ≠ State.reset.s8Acc := ⟨_, rfl, by decide⟩

theorem test_witness_EventsComeFromTheirCommands :
    ∃ t : State, exec (.dfStart 0#16 0x00#8) State.reset = .next t ∧ t.events ≠ [] := ⟨_, rfl, by decide⟩

/-- A step for each code: PENDING, DONE, FAIL, BUSY, FAULT, OK. -/
theorem test_witness_ResponseCodesAsTheirTableSays :
    answerOf (exec (.dfByte 0x7E#8) (inPhase .info 0#7 0#6)) = some (1, 0) ∧
    answerOf (exec (.dfByte 0x7E#8) (inPhase .fin 46#7 39#6)) = some (2, 0) ∧
    answerOf (exec (.dfByte 0x00#8) (draining .badStart 59#7 1#6)) = some (3, 3) ∧
    answerOf (exec (.htGood 0#32) (recovering .onWait 0#32)) = some (4, 0) ∧
    answerOf (exec .htQflag State.reset) = some (15, 4) ∧ answerOf (exec .s8Init State.reset) = some (0, 0) := by decide

/-- Two states that differ in a register that holds no value. -/
theorem test_witness_UnspecifiedRegistersAreNeverObserved :
    let t := { State.reset with htGoodCount := 7#32, rcT0 := 8#32, rd := Vector.replicate 10 9#32 }
    State.reset.buf.wf = true ∧ t.buf.wf = true ∧ State.reset.Agree t ∧ t.htGoodCount ≠ State.reset.htGoodCount := by
  refine ⟨by decide, by decide, ?_, by decide⟩
  constructor <;> first | rfl | (intro h; exact absurd h (by decide))

theorem test_witness_FrameBufferIsBigEndianAndReadsBack :
    Memory.wf [] = true ∧ 36 + 4 ≤ 40 ∧ 40 + 0 ≤ 40 ∧
    (Memory.memWrite [] 36 4 0x3F000000#32).wf = true := by decide

/-- The fifth failure, at the limit of the flag, and a failure at the limit of the count. -/
theorem test_witness_EveryCommandKeepsTheCountOfFailures :
    (∃ t : State, (healthy 4#16).StreakInv (List.replicate 4 false) ∧ (healthy 4#16).htValid = true ∧
      exec (.htBad 5000#32) (healthy 4#16) = .next t ∧ t.htQualityFlag = false) ∧
    ∃ t : State, { healthy 0xFFFF#16 with htQualityFlag := false }.StreakInv (List.replicate 0xFFFF false) ∧
      exec (.htBad 5000#32) { healthy 0xFFFF#16 with htQualityFlag := false } = .next t ∧
      t.htBadStreak = 0xFFFF#16 :=
  ⟨⟨_, by decide, rfl, rfl, by decide⟩, ⟨_, fun _ => by rw [failuresSince_replicate]; decide, rfl, by decide⟩⟩

end Sys2Proof.Tests
end

/-! PROOFS. One step as its cases, the words that decode, and what a command can do to the Reading and to `SYS.fault`;
with these the statements of R34 and R44. -/

namespace Sys2Proof

open Sys2Proof.Machine

/-! ## A word that decodes is the word of its command -/

/-- Format N leaves only the operand zero. -/
theorem zero_eq_of_zeroBitsClear_N {arg : Word} (h : Format.N.zeroBitsClear arg = true) : 0#32 = arg := by
  rw [zeroBitsClear_N] at h
  bv_omega

/-- A legal operand of format `f` whose command lays it out again gives back the whole word. -/
theorem encode_of_operand_eq_ok {w : CommandWord} {f : Format} {i j : Instr}
    (h : operand f (argOf w) i = .ok j) (hop : (opOf w).toNat = i.opcode.toNat)
    (harg : f.zeroBitsClear (argOf w) = true → i.arg = argOf w) : encode j = w := by
  obtain ⟨hz, rfl⟩ := operand_eq_ok.1 h
  rw [encode, harg hz, ← BitVec.eq_of_toNat_eq hop, opOf_append_argOf]

/-- The same for the index of `DF_READ`, which has a bound besides. -/
theorem encode_of_indexOperand_eq_ok {w : CommandWord} {i j : Instr}
    (h : indexOperand (argOf w) i = .ok j) (hop : (opOf w).toNat = i.opcode.toNat)
    (harg : Format.I.zeroBitsClear (argOf w) = true → i.arg = argOf w) : encode j = w := by
  unfold indexOperand at h
  split at h
  · exact encode_of_operand_eq_ok h hop harg
  · cases h

/-- Only the encoder's word decodes to a command (R80, R81, R83). -/
theorem encode_of_decode_eq_ok {w : CommandWord} {i : Instr} (h : decode w = .ok i) : encode i = w := by
  unfold decode at h
  dsimp only at h
  split at h
  case h_1 hop | h_2 hop | h_4 hop | h_6 hop | h_8 hop | h_9 hop | h_11 hop | h_15 hop | h_21 hop | h_22 hop =>
    exact encode_of_operand_eq_ok h hop zero_eq_of_zeroBitsClear_N
  case h_3 hop | h_5 hop | h_7 hop | h_10 hop | h_12 hop | h_14 hop =>
    exact encode_of_operand_eq_ok h hop byteArg_argByte
  case h_17 hop | h_18 hop | h_19 hop | h_20 hop | h_23 hop =>
    exact encode_of_operand_eq_ok h hop fun _ => rfl
  case h_13 hop => exact encode_of_operand_eq_ok h hop startArg_fields
  case h_16 hop => exact encode_of_indexOperand_eq_ok h hop indexArg_argIndex
  case h_24 => cases h

end Sys2Proof

namespace Sys2Proof.Machine

/-! ## One step, and the words of the Reading -/

/-- A step that goes on took a word from the port: the encoder's word of the command it ran, or a word that decodes to
no command and was answered with its fault (R85). -/
theorem step_eq_next {s t : State} (h : step s = .next t) :
    ∃ w rest, s.cmdIn = w :: rest ∧
      ((∃ i, w = encode i ∧ exec i { s with cmdIn := rest } = .next t) ∨
        ∃ c, decode w = .error c ∧ t = { s with cmdIn := rest }.raiseFault c) := by
  unfold step State.takeCommand at h
  cases hport : s.cmdIn with
  | nil => simp [hport] at h
  | cons w rest =>
    refine ⟨w, rest, rfl, ?_⟩
    simp only [hport] at h
    cases hw : decode w with
    | ok i => exact .inl ⟨i, (encode_of_decode_eq_ok hw).symm, by simpa [hw] using h⟩
    | error c => exact .inr ⟨c, rfl, by simpa [hw, eq_comm] using h⟩

/-- Four bytes of the frame buffer as one word, the byte of lowest index at the top (R63). -/
theorem Memory.memRead_four (m : Memory) (a : Nat) :
    m.memRead a 4 = m.read a ++ m.read (a + 1) ++ m.read (a + 2) ++ m.read (a + 3) := by
  have htop : m.memRead a 1 = m.read a := BitVec.zero_width_append _ _
  exact congrArg (fun v : Byte => v ++ m.read (a + 1) ++ m.read (a + 2) ++ m.read (a + 3)) htop

/-- The words of the Reading (R64). -/
theorem Memory.reading_getElem (m : Memory) {i : Nat} (h : i < 10) : m.reading[i] = m.memRead (4 * i) 4 := by
  interval_cases i <;> rfl

/-! ## What a command does to the Reading and to `SYS.fault` -/

/-- From `s` to `t` a command was answered, not with DONE and not with FAULT, and it left the Reading and `SYS.fault`
as they were. -/
structure OrdinaryAnswer (s t : State) : Prop where
  rd : t.rd = s.rd
  rdValid : t.rdValid = s.rdValid
  sysFault : t.sysFault = s.sysFault
  resp : ∃ r, t.resp = some r ∧ r.code ≠ .done ∧ r.code ≠ .fault

/-- The state in which the last byte of a good frame leaves `s` (R135, R143). -/
def State.afterSuccess (s : State) : State :=
  { s with dfCnt := s.dfCnt + 1, rd := s.buf.reading, rdValid := true, dfResult := .ok, dfPhase := .idle }.answer
    .done 0#32 []

/-- The three ways in which a command that goes on can treat the Reading and `SYS.fault`. -/
inductive Effect (i : Instr) (s : State) : State → Prop where
  | ordinary {t : State} (h : OrdinaryAnswer s t) : Effect i s t
  | raised (c : FaultCode) : Effect i s (s.raiseFault c)
  | succeeded (b : Byte) (hi : i = .dfByte b) : Effect i s s.afterSuccess

/-- An outcome that is an ordinary answer, where it goes on. -/
def Ordinary (s : State) (o : Out) : Prop := ∀ t, o = .next t → OrdinaryAnswer s t

/-- An outcome with one of the three effects, where it goes on. -/
def HasEffect (i : Instr) (s : State) (o : Out) : Prop := ∀ t, o = .next t → Effect i s t

section
variable {i : Instr} {s s' : State} {o : Out}

/-- Answering with another code than DONE and FAULT is ordinary, after any update that spares the Reading and
`SYS.fault`. -/
theorem Ordinary.answer {code : RespCode} {v : Word} {evs : List Event} (hrd : s'.rd = s.rd := by rfl)
    (hrdValid : s'.rdValid = s.rdValid := by rfl) (hfault : s'.sysFault = s.sysFault := by rfl)
    (hdone : code ≠ .done := by decide) (hnofault : code ≠ .fault := by decide) :
    Ordinary s (.next (s'.answer code v evs)) := by
  rintro _ ⟨⟩
  exact ⟨hrd, hrdValid, hfault, _, rfl, hdone, hnofault⟩

/-- A failed attempt is answered FAIL, or PENDING while bytes remain to be drained (R145). -/
theorem Ordinary.afterFailure {r : DfResult} (hrd : s'.rd = s.rd := by rfl)
    (hrdValid : s'.rdValid = s.rdValid := by rfl) (hfault : s'.sysFault = s.sysFault := by rfl) :
    Ordinary s (.next (s'.afterFailure r)) := by
  rintro _ ⟨⟩
  refine ⟨hrd, hrdValid, hfault, _, rfl, ?_⟩
  split <;> simp

/-- Stopping is no answer at all. -/
theorem Ordinary.stop (r : Fault) : Ordinary s (.fault r) := by
  rintro _ ⟨⟩

/-- An answer may be compared with a state before an update that spares the Reading and `SYS.fault`. -/
theorem Ordinary.of_update (h : Ordinary s' o) (hrd : s'.rd = s.rd := by rfl)
    (hrdValid : s'.rdValid = s.rdValid := by rfl) (hfault : s'.sysFault = s.sysFault := by rfl) : Ordinary s o :=
  fun t ht =>
    have hs := h t ht
    ⟨hs.rd.trans hrd, hs.rdValid.trans hrdValid, hs.sysFault.trans hfault, hs.resp⟩

theorem Ordinary.hasEffect (h : Ordinary s o) : HasEffect i s o := fun t ht => .ordinary (h t ht)

/-- An ordinary answer of a command. -/
theorem HasEffect.answer {code : RespCode} {v : Word} {evs : List Event} (hrd : s'.rd = s.rd := by rfl)
    (hrdValid : s'.rdValid = s.rdValid := by rfl) (hfault : s'.sysFault = s.sysFault := by rfl)
    (hdone : code ≠ .done := by decide) (hnofault : code ≠ .fault := by decide) :
    HasEffect i s (.next (s'.answer code v evs)) :=
  (Ordinary.answer hrd hrdValid hfault hdone hnofault).hasEffect

theorem HasEffect.raise (c : FaultCode) : HasEffect i s (.next (s.raiseFault c)) := by
  rintro _ ⟨⟩
  exact .raised c

end

/-! ## The deframer -/

section
variable (i : Instr) (b v : Byte) (s : State)

theorem dfInfoByte_ordinary : Ordinary s (s.dfInfoByte b) := by
  obtain ⟨_, h⟩ | ⟨_, _, h⟩ | ⟨_, _, h⟩ | ⟨_, h⟩ := s.dfInfoByte_cases b <;> rw [h]
  · exact .answer
  · exact .answer
  · exact .afterFailure
  · exact .stop _

theorem dfPayload_ordinary : Ordinary s (s.dfPayload v) := by
  obtain ⟨_, h⟩ | ⟨_, h⟩ | ⟨_, h⟩ := s.dfPayload_cases v <;> rw [h]
  · exact .answer
  · exact .answer
  · exact .stop _

theorem dfChecksum_ordinary : Ordinary s (s.dfChecksum v) := by
  obtain ⟨_, h⟩ | ⟨_, h⟩ := s.dfChecksum_cases v <;> rw [h]
  · exact .answer
  · exact .afterFailure

/-- De-stuffing adds only ordinary answers to those of `deliver`. -/
theorem dfDestuff_ordinary {deliver : Byte → State → Out} (hdel : ∀ v s, Ordinary s (deliver v s)) :
    Ordinary s (s.dfDestuff deliver b) := by
  obtain ⟨_, _, h⟩ | ⟨_, _, h⟩ | ⟨v, _, h⟩ := s.dfDestuff_cases deliver b <;> rw [h]
  · rw [State.dfFail_eq]; exact .afterFailure
  · exact .answer
  · exact (hdel v _).of_update

theorem dfDrop_ordinary : Ordinary s s.dfDrop := by
  obtain ⟨_, h⟩ | ⟨_, h⟩ := s.dfDrop_cases <;> rw [h]
  · exact .answer
  · exact .answer

/-- Only the end byte in phase END can succeed; every other phase answers in the ordinary way or raises a fault. -/
theorem execDfByte_hasEffect : HasEffect (.dfByte b) s (execDfByte b s) := by
  unfold execDfByte
  dsimp only
  split
  -- The phases in the order IDLE, INFO, DATA, CHK, END, DRAIN.
  case h_1 => exact .raise _
  case h_2 => exact (dfInfoByte_ordinary b _).of_update.hasEffect
  case h_3 => exact (dfDestuff_ordinary b _ dfPayload_ordinary).of_update.hasEffect
  case h_4 => exact (dfDestuff_ordinary b _ dfChecksum_ordinary).of_update.hasEffect
  case h_5 =>
    obtain ⟨_, h⟩ | ⟨_, h⟩ := State.dfEnd_cases b { s with dfCnt := s.dfCnt + 1 } <;> rw [h]
    · rintro _ ⟨⟩
      exact .succeeded b rfl
    · exact Ordinary.hasEffect .afterFailure
  case h_6 => exact (dfDrop_ordinary _).of_update.hasEffect

theorem execDfStart_hasEffect (avail : BitVec 16) (peek : Byte) : HasEffect i s (execDfStart avail peek s) := by
  unfold execDfStart
  split
  · exact .raise _
  dsimp only
  split
  · exact .answer
  split
  · exact .answer
  split
  · exact .answer
  · exact .answer

theorem execDfEmpty_hasEffect : HasEffect i s (execDfEmpty s) := by
  unfold execDfEmpty
  cases s.dfPhase with
  | idle => exact .raise _
  | info | data | chk | fin | drain => exact .answer

theorem execDfRead_hasEffect (k : BitVec 4) : HasEffect i s (execDfRead k s) := by
  unfold execDfRead
  split
  · split
    · exact .answer
    · exact .raise _
  · exact .raise _

end

/-! ## The health tracker and the recovery sequencer -/

section
variable (i : Instr) (now : Word) (s : State)

theorem ageCheck_ordinary : Ordinary s (s.ageCheck now) := by
  obtain ⟨_, h⟩ | ⟨_, h⟩ := s.ageCheck_cases now <;> rw [h]
  · exact .answer
  · exact .answer

theorem execHtInit_hasEffect : HasEffect i s (execHtInit now s) := by
  unfold execHtInit
  split
  · exact .answer
  · exact .answer

theorem execHtGood_hasEffect : HasEffect i s (execHtGood now s) := by
  obtain ⟨_, h⟩ | ⟨_, _, h⟩ | ⟨_, _, h⟩ := execHtGood_cases now s <;> rw [h]
  · exact .raise _
  · exact .answer
  · exact (ageCheck_ordinary now _).of_update.hasEffect

theorem execHtBad_hasEffect : HasEffect i s (execHtBad now s) := by
  obtain ⟨_, h⟩ | ⟨_, _, h⟩ | ⟨_, _, h⟩ := execHtBad_cases now s <;> rw [h]
  · exact .raise _
  · exact .answer
  · exact (ageCheck_ordinary now _).of_update.hasEffect

theorem execHtQgood_hasEffect : HasEffect i s (execHtQgood s) := by
  unfold execHtQgood
  split
  · exact .raise _
  · exact .answer

theorem execHtQflag_hasEffect : HasEffect i s (execHtQflag s) := by
  unfold execHtQflag
  split
  · exact .raise _
  · exact .answer

theorem execRcTick_hasEffect : HasEffect i s (execRcTick now s) := by
  unfold execRcTick State.rcTick
  obtain h | ⟨_, _, h⟩ | ⟨_, _, _, h⟩ | ⟨_, _, _, h⟩ | ⟨_, _, h⟩ := s.rcAdvance_cases Config.params now <;> rw [h]
  all_goals exact .answer

end

/-! ## Every command, and the two statements -/

/-- Every command that goes on has one of the three effects. -/
theorem exec_hasEffect (i : Instr) (s : State) : HasEffect i s (exec i s) := by
  cases i with
  | dfStart avail peek => exact execDfStart_hasEffect _ s avail peek
  | dfByte b => exact execDfByte_hasEffect b s
  | dfEmpty => exact execDfEmpty_hasEffect _ s
  | dfRead k => exact execDfRead_hasEffect _ s k
  | htInit now => exact execHtInit_hasEffect _ now s
  | htGood now => exact execHtGood_hasEffect _ now s
  | htBad now => exact execHtBad_hasEffect _ now s
  | htQgood => exact execHtQgood_hasEffect _ s
  | htQflag => exact execHtQflag_hasEffect _ s
  | rcTick now => exact execRcTick_hasEffect _ now s
  | sysStatus | s8Init | s8Byte | s8Read | s8Check | c16Init | c16Byte | c16Read | c8Init | c8Byte | c8Read | c8Check
  | htSetthr => exact .answer

/-- A step that goes on is an ordinary answer, raises a fault, or takes the last byte of a good frame. -/
theorem step_cases {s t : State} (h : step s = .next t) :
    OrdinaryAnswer s t ∨ (∃ rest c, t = { s with cmdIn := rest }.raiseFault c) ∨
      ∃ b rest, s.cmdIn = encode (.dfByte b) :: rest ∧ t = { s with cmdIn := rest }.afterSuccess := by
  obtain ⟨w, rest, hport, ⟨i, hw, hexec⟩ | ⟨c, _, ht⟩⟩ := step_eq_next h
  · cases exec_hasEffect i _ t hexec with
    | ordinary hans => exact .inl ⟨hans.rd, hans.rdValid, hans.sysFault, hans.resp⟩
    | raised c => exact .inr (.inl ⟨rest, c, rfl⟩)
    | succeeded b hi => exact .inr (.inr ⟨b, rest, by rw [hport, hw, hi], rfl⟩)
  · exact .inr (.inl ⟨rest, c, ht⟩)

/-- Settles O25: of the three cases of a step only the success touches the Reading. -/
theorem readingChangesOnlyWithDone : Obligations.ReadingChangesOnlyWithDone := by
  unfold Obligations.ReadingChangesOnlyWithDone
  refine ⟨rfl, fun s t h => ?_⟩
  obtain hans | ⟨rest, c, rfl⟩ | ⟨b, rest, hport, rfl⟩ := step_cases h
  · obtain ⟨r, hr, hdone, -⟩ := hans.resp
    refine ⟨fun hchange => ?_, fun ⟨v, hv⟩ => ?_, fun hvalid => hans.rdValid.trans hvalid⟩
    · exact absurd hchange (by simp [hans.rd, hans.rdValid])
    · obtain rfl : r = ⟨.done, v⟩ := by simpa [hr] using hv
      exact absurd rfl hdone
  · simp
  · refine ⟨fun _ => ⟨0#32, rfl⟩, fun _ => ⟨rfl, ⟨b, rest, hport⟩, fun i hi => ?_⟩, fun _ => rfl⟩
    exact (s.buf.reading_getElem hi).trans (s.buf.memRead_four (4 * i))

/-- Settles O49: of the three cases of a step only the raised fault touches `SYS.fault`. -/
theorem sysFaultIsSticky : Obligations.SysFaultIsSticky := by
  unfold Obligations.SysFaultIsSticky
  refine ⟨rfl, fun s t h => ?_⟩
  obtain hans | ⟨rest, c, rfl⟩ | ⟨b, rest, -, rfl⟩ := step_cases h
  · obtain ⟨r, hr, -, hfault⟩ := hans.resp
    have hno : ¬ ∃ code, t.resp = some ⟨.fault, code⟩ := by
      rintro ⟨code, hcode⟩
      obtain rfl : r = ⟨.fault, code⟩ := by simpa [hr] using hcode
      exact hfault rfl
    simp only [hans.sysFault, hno, or_false]
  · simp
  · simp [State.afterSuccess]

end Sys2Proof.Machine

/-! PROOFS. The frame buffer, several bytes at a time: each of `MemRead` and `MemWrite` cell by cell, and the one read
back after the other (R63). -/

namespace Sys2Proof.Machine

/-! ## The byte of highest index and the bytes above it -/

/-- `8 * (n + 1)` bits are the top `8 * n` and the lowest byte, as `MemWrite` splits them. -/
theorem extractLsb'_append_lowByte (n : Nat) (v : BitVec (8 * (n + 1))) :
    v.extractLsb' 8 (8 * n) ++ v.extractLsb' 0 8 = v :=
  (BitVec.extractLsb'_append_extractLsb'_eq_extractLsb' rfl).trans BitVec.extractLsb'_eq_self

/-! ## `MemRead` and `MemWrite` -/

/-- `MemRead` sees nothing but its own cells. -/
theorem Memory.memRead_congr {m m' : Memory} {a n : Nat} (h : ∀ k, k < n → m.read (a + k) = m'.read (a + k)) :
    m.memRead a n = m'.memRead a n := by
  induction n with
  | zero => rfl
  | succ n ih =>
    have htop : m.memRead a n = m'.memRead a n := ih fun k hk => h k (by omega)
    rw [Memory.memRead, Memory.memRead, htop, h n (by omega)]

/-- Byte `k` of `MemRead`, counted from the most significant end, is the cell at `a + k`. -/
theorem Memory.memRead_byte (m : Memory) (a : Nat) {n k : Nat} (h : k < n) :
    (m.memRead a n).extractLsb' (8 * (n - 1 - k)) 8 = m.read (a + k) := by
  induction n with
  | zero => omega
  | succ n ih =>
    rw [Memory.memRead]
    obtain rfl | hk : k = n ∨ k < n := by omega
    · simp [BitVec.extractLsb'_append_eq_right]
    · have hpos : 8 * (n + 1 - 1 - k) = 8 * (n - 1 - k) + 8 := by omega
      rw [hpos, BitVec.extractLsb'_append_eq_of_le (by omega), Nat.add_sub_cancel, ih hk]

/-- `MemWrite` changes no cell outside its own. -/
theorem Memory.read_memWrite_other (m : Memory) {a c : Nat} (n : Nat) (v : BitVec (8 * n)) (h : c < a ∨ a + n ≤ c) :
    (m.memWrite a n v).read c = m.read c := by
  induction n with
  | zero => rfl
  | succ n ih => rw [Memory.memWrite, Memory.read_write_other _ _ (by omega), ih _ (by omega)]

/-- `MemRead` after `MemWrite`: the cell written last holds the lowest byte, and the write of it spares the cells that
hold the bytes above. -/
theorem Memory.memRead_memWrite {m : Memory} {a n : Nat} (v : BitVec (8 * n)) (hm : m.wf = true)
    (h : a + n ≤ bufCells) : (m.memWrite a n v).memRead a n = v := by
  induction n with
  | zero => exact BitVec.of_length_zero.symm
  | succ n ih =>
    have hupper := Memory.wf_memWrite n (v.extractLsb' 8 (8 * n)) hm (by omega : a + n ≤ bufCells)
    have hlow : (m.memWrite a (n + 1) v).read (a + n) = v.extractLsb' 0 8 := Memory.read_write_same _ _ hupper
    have hhigh : (m.memWrite a (n + 1) v).memRead a n = v.extractLsb' 8 (8 * n) :=
      calc (m.memWrite a (n + 1) v).memRead a n
          = (m.memWrite a n (v.extractLsb' 8 (8 * n))).memRead a n :=
            Memory.memRead_congr fun k hk => Memory.read_write_other _ _ (by omega)
        _ = v.extractLsb' 8 (8 * n) := ih _ (by omega)
    rw [Memory.memRead, hhigh, hlow]
    exact extractLsb'_append_lowByte n v

/-- Settles O56: one lemma for each of its four clauses. -/
theorem frameBufferIsBigEndianAndReadsBack : Obligations.FrameBufferIsBigEndianAndReadsBack := by
  unfold Obligations.FrameBufferIsBigEndianAndReadsBack
  intro m a n v hm h
  exact ⟨Memory.memRead_memWrite v hm h, fun c hc => m.read_memWrite_other n v hc, Memory.wf_memWrite n v hm h,
    fun k hk => m.memRead_byte a hk⟩

end Sys2Proof.Machine

/-! PROOFS. The event lists a command can emit, as R87 prints them. -/

namespace Sys2Proof.Machine

/-- An outcome that emits one of `lists`, where it goes on. -/
def EmitsOneOf (lists : List (List Event)) (o : Out) : Prop := ∀ t, o = .next t → t.events ∈ lists

/-- An outcome that emits nothing, where it goes on. -/
abbrev Silent (o : Out) : Prop := EmitsOneOf [[]] o

section
variable {lists : List (List Event)} {s : State}

@[simp] theorem emitsOneOf_next : EmitsOneOf lists (.next s) ↔ s.events ∈ lists := by
  simp [EmitsOneOf]

@[simp] theorem emitsOneOf_fault (r : Fault) : EmitsOneOf lists (.fault r) := by
  simp [EmitsOneOf]

@[simp] theorem State.afterFailure_events (r : DfResult) : (s.afterFailure r).events = [] := rfl

end

/-! ## The deframer -/

section
variable (b v : Byte) (s : State)

theorem dfInfoByte_silent : Silent (s.dfInfoByte b) := by
  obtain ⟨_, h⟩ | ⟨_, _, h⟩ | ⟨_, _, h⟩ | ⟨_, h⟩ := s.dfInfoByte_cases b <;> simp [h]

theorem dfPayload_silent : Silent (s.dfPayload v) := by
  obtain ⟨_, h⟩ | ⟨_, h⟩ | ⟨_, h⟩ := s.dfPayload_cases v <;> simp [h]

theorem dfChecksum_silent : Silent (s.dfChecksum v) := by
  obtain ⟨_, h⟩ | ⟨_, h⟩ := s.dfChecksum_cases v <;> simp [h]

/-- De-stuffing emits nothing of its own. -/
theorem dfDestuff_silent {deliver : Byte → State → Out} (hdel : ∀ v s, Silent (deliver v s)) :
    Silent (s.dfDestuff deliver b) := by
  obtain ⟨_, _, h⟩ | ⟨_, _, h⟩ | ⟨v, _, h⟩ := s.dfDestuff_cases deliver b <;> rw [h]
  · simp [State.dfFail_eq]
  · simp
  · exact hdel v _

theorem dfEnd_silent : Silent (s.dfEnd b) := by
  obtain ⟨_, h⟩ | ⟨_, h⟩ := s.dfEnd_cases b <;> simp [h]

theorem dfDrop_silent : Silent s.dfDrop := by
  obtain ⟨_, h⟩ | ⟨_, h⟩ := s.dfDrop_cases <;> simp [h]

theorem execDfByte_silent : Silent (execDfByte b s) := by
  unfold execDfByte
  cases s.dfPhase with
  | idle => simp
  | info => exact dfInfoByte_silent b _
  | data => exact dfDestuff_silent b _ dfPayload_silent
  | chk => exact dfDestuff_silent b _ dfChecksum_silent
  | fin => exact dfEnd_silent b _
  | drain => exact dfDrop_silent _

theorem execDfEmpty_silent : Silent (execDfEmpty s) := by
  unfold execDfEmpty
  cases s.dfPhase <;> simp

theorem execDfRead_silent (k : BitVec 4) : Silent (execDfRead k s) := by
  unfold execDfRead
  split
  · split <;> simp
  · simp

/-- The request frame goes out in every outcome of `DF_START` but the fault (R134). -/
theorem execDfStart_emits (avail : BitVec 16) (peek : Byte) :
    EmitsOneOf [[], [.tx reqFrame]] (execDfStart avail peek s) := by
  unfold execDfStart
  split
  · simp
  dsimp only
  split
  · simp
  split
  · simp
  split <;> simp

end

/-! ## The health tracker and the recovery sequencer -/

section
variable (now : Word) (s : State)

theorem ageCheck_emits : EmitsOneOf [[], [.trigger, .pwrOff]] (s.ageCheck now) := by
  obtain ⟨_, h⟩ | ⟨_, h⟩ := s.ageCheck_cases now <;> simp [h]

theorem execHtInit_silent : Silent (execHtInit now s) := by
  unfold execHtInit State.refuseBusy
  split <;> simp

theorem execHtGood_emits : EmitsOneOf [[], [.trigger, .pwrOff]] (execHtGood now s) := by
  obtain ⟨_, h⟩ | ⟨_, _, h⟩ | ⟨_, _, h⟩ := execHtGood_cases now s <;> rw [h]
  · simp
  · simp
  · exact ageCheck_emits now _

theorem execHtBad_emits : EmitsOneOf [[], [.trigger, .pwrOff]] (execHtBad now s) := by
  obtain ⟨_, h⟩ | ⟨_, _, h⟩ | ⟨_, _, h⟩ := execHtBad_cases now s <;> rw [h]
  · simp
  · simp
  · exact ageCheck_emits now _

theorem execHtQgood_silent : Silent (execHtQgood s) := by
  unfold execHtQgood
  split <;> simp

theorem execHtQflag_silent : Silent (execHtQflag s) := by
  unfold execHtQflag
  split <;> simp

theorem execRcTick_emits : EmitsOneOf [[], [.pwrOn], [.fanClean]] (execRcTick now s) := by
  unfold execRcTick State.rcTick
  obtain h | ⟨_, _, h⟩ | ⟨_, _, _, h⟩ | ⟨_, _, _, h⟩ | ⟨_, _, h⟩ := s.rcAdvance_cases Config.params now <;> simp [h]

end

/-! ## Every command -/

/-- The event lists of each command (R87). -/
def eventLists : Instr → List (List Event)
  | .dfStart _ _ => [[], [.tx reqFrame]]
  | .htGood _ | .htBad _ => [[], [.trigger, .pwrOff]]
  | .rcTick _ => [[], [.pwrOn], [.fanClean]]
  | .sysStatus | .s8Init | .s8Byte _ | .s8Read | .s8Check _ | .c16Init | .c16Byte _ | .c16Read | .c8Init | .c8Byte _
  | .c8Read | .c8Check _ | .dfByte _ | .dfEmpty | .dfRead _ | .htInit _ | .htSetthr _ | .htQgood | .htQflag => [[]]

theorem exec_emitsOneOf_eventLists (i : Instr) (s : State) : EmitsOneOf (eventLists i) (exec i s) := by
  cases i with
  | dfStart avail peek => exact execDfStart_emits s avail peek
  | dfByte b => exact execDfByte_silent b s
  | dfEmpty => exact execDfEmpty_silent s
  | dfRead k => exact execDfRead_silent s k
  | htInit now => exact execHtInit_silent now s
  | htGood now => exact execHtGood_emits now s
  | htBad now => exact execHtBad_emits now s
  | htQgood => exact execHtQgood_silent s
  | htQflag => exact execHtQflag_silent s
  | rcTick now => exact execRcTick_emits now s
  | sysStatus | s8Init | s8Byte | s8Read | s8Check | c16Init | c16Byte | c16Read | c8Init | c8Byte | c8Read | c8Check
  | htSetthr => exact emitsOneOf_next.2 (List.mem_singleton.2 rfl)

/-- Settles O53: the event lists of the command, read off its group. -/
theorem eventsComeFromTheirCommands : Obligations.EventsComeFromTheirCommands := by
  unfold Obligations.EventsComeFromTheirCommands
  intro i s t h
  have hev := exec_emitsOneOf_eventLists i s t h
  cases i with
  | dfStart avail peek => simpa [eventLists, reqFrame] using hev
  | htGood now | htBad now => simpa [eventLists] using hev
  | rcTick now => simpa [eventLists] using hev
  | _ => exact .inl (List.mem_singleton.1 hev)

end Sys2Proof.Machine

/-! PROOFS. The command words that decode to no command, against the machine-readable table, and the step that meets
one (R85). -/

namespace Sys2Proof

open Sys2Proof.Machine

/-! ## The rows of the table and the opcodes -/

/-- The index field of a command word is the index field of its operand. -/
theorem argIndex_argOf (w : CommandWord) : argIndex (argOf w) = w.extractLsb' 0 4 := by
  unfold argIndex argOf
  ext i hi
  simp

/-- The opcodes of R83, as the table's rows give them. -/
def rowOpcodes : List Nat := opcodeTable.map fun r => (opOf r.pattern).toNat

/-- The opcodes of the rows are those the decoder knows. -/
theorem rowOpcodes_eq : rowOpcodes =
    [0x00, 0x10, 0x11, 0x12, 0x13, 0x20, 0x21, 0x22, 0x30, 0x31, 0x32, 0x33, 0x40, 0x41, 0x42, 0x43, 0x50, 0x51, 0x52,
     0x53, 0x54, 0x55, 0x60] := by decide

theorem opOf_mem_rowOpcodes {w : CommandWord} :
    (opOf w).toNat ∈ rowOpcodes ↔ ∃ r ∈ opcodeTable, opOf r.pattern = opOf w := by
  simp [rowOpcodes, BitVec.toNat_inj]

/-- The word of every command selects a row (R91). -/
theorem exists_row_selects_encode (i : Instr) : ∃ r ∈ opcodeTable, r.selects (encode i) = true := by
  have hrow : Laws.TableRowOf.Statement i := by
    cases i with
    | sysStatus => exact Laws.TableRowOf.sysStatus
    | s8Init => exact Laws.TableRowOf.s8Init
    | s8Byte b => exact Laws.TableRowOf.s8Byte b
    | s8Read => exact Laws.TableRowOf.s8Read
    | s8Check c => exact Laws.TableRowOf.s8Check c
    | c16Init => exact Laws.TableRowOf.c16Init
    | c16Byte b => exact Laws.TableRowOf.c16Byte b
    | c16Read => exact Laws.TableRowOf.c16Read
    | c8Init => exact Laws.TableRowOf.c8Init
    | c8Byte b => exact Laws.TableRowOf.c8Byte b
    | c8Read => exact Laws.TableRowOf.c8Read
    | c8Check c => exact Laws.TableRowOf.c8Check c
    | dfStart avail peek => exact Laws.TableRowOf.dfStart avail peek
    | dfByte b => exact Laws.TableRowOf.dfByte b
    | dfEmpty => exact Laws.TableRowOf.dfEmpty
    | dfRead k => exact Laws.TableRowOf.dfRead k
    | htInit now => exact Laws.TableRowOf.htInit now
    | htGood now => exact Laws.TableRowOf.htGood now
    | htBad now => exact Laws.TableRowOf.htBad now
    | htSetthr thr => exact Laws.TableRowOf.htSetthr thr
    | htQgood => exact Laws.TableRowOf.htQgood
    | htQflag => exact Laws.TableRowOf.htQflag
    | rcTick now => exact Laws.TableRowOf.rcTick now
  obtain ⟨r, hr, -, hsel⟩ := hrow
  exact ⟨r, hr, hsel⟩

/-! ## The two ways in which a word does not decode -/

/-- An operand is refused with ILL_OPERAND only (R85 case 2). -/
theorem operand_eq_error {f : Format} {arg : Word} {i : Instr} {c : FaultCode} (h : operand f arg i = .error c) :
    c = .illOperand := by
  unfold operand at h
  split at h
  · cases h
  · exact (Except.error.inj h).symm

/-- The same for an index. -/
theorem indexOperand_eq_error {arg : Word} {i : Instr} {c : FaultCode} (h : indexOperand arg i = .error c) :
    c = .illOperand := by
  unfold indexOperand at h
  split at h
  · exact operand_eq_error h
  · exact (Except.error.inj h).symm

/-- An opcode of no row is ILL_OPCODE, whatever the operand (R85 case 1). -/
theorem decode_of_opOf_notMem {w : CommandWord} (h : (opOf w).toNat ∉ rowOpcodes) : decode w = .error .illOpcode := by
  rw [rowOpcodes_eq] at h
  unfold decode
  dsimp only
  split
  case h_24 => rfl
  all_goals next hop => simp [hop] at h

/-- Past the test of the opcode the only fault left is that of the operand (R85 case 2). -/
theorem eq_illOperand_of_decode_eq_error {w : CommandWord} {c : FaultCode} (hop : (opOf w).toNat ∈ rowOpcodes)
    (h : decode w = .error c) : c = .illOperand := by
  rw [rowOpcodes_eq] at hop
  unfold decode at h
  dsimp only at h
  split at h
  case h_16 => exact indexOperand_eq_error h
  case h_24 => simp_all -- the default arm excludes the opcodes of the rows one by one
  all_goals exact operand_eq_error h

/-- A word that selects no row decodes to no command. -/
theorem decode_ne_ok_of_selects_eq_false {w : CommandWord} (h : ∀ r ∈ opcodeTable, r.selects w = false) (i : Instr) :
    decode w ≠ .ok i := by
  intro hi
  obtain ⟨r, hr, hsel⟩ := exists_row_selects_encode i
  rw [encode_of_decode_eq_ok hi, h r hr] at hsel
  cases hsel

/-- A word of `DF_READ` with an index above 9 decodes to no command. -/
theorem decode_ne_ok_of_nine_lt_index {w : CommandWord} (hop : opOf w = 0x43#8) (h : 9 < (argIndex (argOf w)).toNat)
    (i : Instr) : decode w ≠ .ok i := by
  have hdec : decode w = indexOperand (argOf w) (.dfRead (argIndex (argOf w))) := by simp [decode, hop]
  simp [hdec, indexOperand, Nat.not_le.2 h]

/-- A word with a row's opcode that decodes to no command is ILL_OPERAND. -/
theorem decode_of_opOf_mem {w : CommandWord} (hop : (opOf w).toNat ∈ rowOpcodes) (h : ∀ i, decode w ≠ .ok i) :
    decode w = .error .illOperand := by
  cases hw : decode w with
  | ok i => exact absurd hw (h i)
  | error c => rw [eq_illOperand_of_decode_eq_error hop hw]

end Sys2Proof

namespace Sys2Proof.Machine

/-- A fault leaves the state that R212 gives for its number. -/
theorem State.raiseFault_eq_afterFault (s : State) (c : FaultCode) : s.raiseFault c = s.afterFault c.val := rfl

/-- A step with a word that decodes to no command raises the word's fault. -/
theorem step_of_decode_eq_error {s : State} {w : CommandWord} {rest : List CommandWord} {c : FaultCode}
    (hport : s.cmdIn = w :: rest) (hw : decode w = .error c) :
    step s = .next ({ s with cmdIn := rest }.afterFault c.val) := by
  simp [step, State.takeCommand, hport, hw, State.raiseFault_eq_afterFault]

/-- Settles O42: what the decoder says of such a word, and the step that raises it. -/
theorem stepAnswersIllegalWordsWithAFault : Obligations.StepAnswersIllegalWordsWithAFault := by
  unfold Obligations.StepAnswersIllegalWordsWithAFault
  intro s w rest hport
  refine ⟨fun hnone => ?_, fun hrow hillegal => ?_⟩
  · have hop : (opOf w).toNat ∉ rowOpcodes := fun hmem =>
      have ⟨r, hr, heq⟩ := opOf_mem_rowOpcodes.1 hmem
      hnone r hr heq
    exact step_of_decode_eq_error hport (decode_of_opOf_notMem hop)
  · have hnocmd : ∀ i, decode w ≠ .ok i := by
      obtain hsel | ⟨hread, hindex⟩ := hillegal
      · exact decode_ne_ok_of_selects_eq_false hsel
      · exact decode_ne_ok_of_nine_lt_index hread (by rwa [argIndex_argOf])
    exact step_of_decode_eq_error hport (decode_of_opOf_mem (opOf_mem_rowOpcodes.2 hrow) hnocmd)

end Sys2Proof.Machine

/-! PROOFS. The commands of SUM8, and the INIT, READ and CHECK of the two CRC units: what each does, and the words that
run it (40_sum8.md, 41_crc16.md, 42_crc8.md). -/

namespace Sys2Proof.Machine

/-! ## The words that run a command of format N or B -/

/-- A step with a word that decodes runs its command. -/
theorem step_of_decode_eq_ok {s : State} {w : CommandWord} {rest : List CommandWord} {i : Instr}
    (hport : s.cmdIn = w :: rest) (hw : decode w = .ok i) : step s = exec i { s with cmdIn := rest } := by
  simp [step, State.takeCommand, hport, hw]

/-- An opcode whose operand the decoder tests against one format, and against nothing else, runs as its command. -/
theorem runsAs_of_decode_eq_operand {op : Byte} {legal : Word → Prop} {i : Word → Instr} (f : Format)
    (hlegal : ∀ arg, f.zeroBitsClear arg = true ↔ legal arg)
    (hdec : ∀ arg, decode (op ++ arg) = operand f arg (i arg)) : RunsAs op legal i := by
  refine fun s rest arg hport => ⟨fun h => ?_, fun h => ?_⟩
  · exact step_of_decode_eq_ok hport ((hdec arg).trans (operand_eq_ok.2 ⟨(hlegal arg).2 h, rfl⟩))
  · have hbad : operand f arg (i arg) = .error .illOperand := if_neg (mt (hlegal arg).1 h)
    exact step_of_decode_eq_error hport ((hdec arg).trans hbad)

/-- Format N: the operand is zero. That the opcode's row has this format is read off `decode`. -/
theorem runsAs_of_formatN {op : Byte} {i : Instr}
    (hdec : ∀ arg, decode (op ++ arg) = operand .N arg i := by simp [decode]) :
    RunsAs op (fun arg => arg = 0#32) (fun _ => i) :=
  runsAs_of_decode_eq_operand .N (fun arg => by rw [zeroBitsClear_N]; bv_omega) hdec

/-- Format B, likewise: the 24 bits above the byte are zero. -/
theorem runsAs_of_formatB {op : Byte} {i : Byte → Instr}
    (hdec : ∀ arg, decode (op ++ arg) = operand .B arg (i (argByte arg)) := by simp [decode]) :
    RunsAs op (fun arg => arg.extractLsb' 8 24 = 0#24) (fun arg => i (arg.extractLsb' 0 8)) :=
  runsAs_of_decode_eq_operand .B
    (fun arg => (zeroBitsClear_B arg).trans (highField_eq_zero 8 24 rfl arg).symm) hdec

/-! ## Numbers -/

/-- A one-bit value as the answer of a command. -/
theorem bit_eq_ite (b : Bool) : bit b = if b then 1#32 else 0#32 := by
  cases b <;> rfl

/-- The one's complement of a byte is its distance from 255 (R100). -/
@[simp] theorem chk8_toNat (sum : Byte) : (chk8 sum).toNat = 255 - sum.toNat :=
  BitVec.toNat_not

/-- The checksum matches when running sum and transmitted byte add up to all ones (R104). -/
theorem complement_eq_iff_add_mod (sum c : Byte) : 255 - sum.toNat = c.toNat ↔ (sum.toNat + c.toNat) % 256 = 255 := by
  have hsum := sum.isLt
  have hc := c.isLt
  omega

/-- One shift of the CRC-8 register gives zero from zero only: the constant that is exclusive-ored in sets the bit the
shift has emptied. -/
theorem crc8Shift_eq_zero_iff {r : Byte} : crc8Shift r = 0x00#8 ↔ r = 0x00#8 := by
  unfold crc8Shift
  split
  · next htop =>
    have hlow : ((r <<< 1) ^^^ 0x31#8).getLsbD 0 = true := by simp
    constructor
    · intro h
      simp [h] at hlow
    · rintro rfl
      simp at htop
  · next htop =>
    have hlt : r.toNat < 128 := by
      have := BitVec.msb_eq_false_iff_two_mul_lt.1 (show r.msb = false by simpa [BitVec.msb_eq_getLsbD_last] using htop)
      omega
    bv_omega

/-- So do any number of shifts. -/
theorem repeat_crc8Shift_eq_zero_iff (n : Nat) {r : Byte} : Nat.repeat crc8Shift n r = 0x00#8 ↔ r = 0x00#8 := by
  induction n with
  | zero => rfl
  | succ n ih => exact crc8Shift_eq_zero_iff.trans ih

/-- Folding a byte in gives zero exactly when the byte is what the register holds (R124). -/
theorem crc8Step_eq_zero_iff (acc c : Byte) : crc8Step acc c = 0x00#8 ↔ acc = c :=
  (repeat_crc8Shift_eq_zero_iff 8).trans BitVec.xor_eq_zero_iff

/-! ## What each command does -/

section
variable (s : State) (b c : Byte)

theorem exec_s8Init : exec .s8Init s = .next ({ s with s8Acc := 0x00#8 }.answer .ok 0#32 []) := rfl

theorem exec_s8Byte : exec (.s8Byte b) s = .next ({ s with s8Acc := s.s8Acc + b }.answer .ok 0#32 []) := rfl

theorem exec_s8Read : exec .s8Read s = .next (s.answer .ok (BitVec.ofNat 32 (255 - s.s8Acc.toNat)) []) := by
  rw [← chk8_toNat, BitVec.ofNat_toNat]
  rfl

theorem exec_s8Check :
    exec (.s8Check c) s = .next (s.answer .ok (if 255 - s.s8Acc.toNat = c.toNat then 1#32 else 0#32) []) := by
  have hval : bit (chk8 s.s8Acc == c) = if 255 - s.s8Acc.toNat = c.toNat then 1#32 else 0#32 := by
    simp [bit_eq_ite, ← BitVec.toNat_inj]
  rw [← hval]
  rfl

theorem exec_c16Init : exec .c16Init s = .next ({ s with c16Acc := 0xFFFF#16 }.answer .ok 0#32 []) := rfl

theorem exec_c16Read : exec .c16Read s = .next (s.answer .ok (BitVec.ofNat 32 s.c16Acc.toNat) []) := by
  rw [BitVec.ofNat_toNat]
  rfl

theorem exec_c8Init : exec .c8Init s = .next ({ s with c8Acc := 0xFF#8 }.answer .ok 0#32 []) := rfl

theorem exec_c8Read : exec .c8Read s = .next (s.answer .ok (BitVec.ofNat 32 s.c8Acc.toNat) []) := by
  rw [BitVec.ofNat_toNat]
  rfl

theorem exec_c8Check : exec (.c8Check c) s = .next (s.answer .ok (if s.c8Acc = c then 1#32 else 0#32) []) := by
  have hval : bit (s.c8Acc == c) = if s.c8Acc = c then 1#32 else 0#32 := by simp [bit_eq_ite]
  rw [← hval]
  rfl

end

/-! ## A whole message -/

/-- One command per byte, each taking the state `st a` to `st (f a b)`, leaves the fold of `f` over the message. -/
theorem runAll_map_eq_foldl {α : Type} {st : α → State} {f : α → Byte → α} {cmd : Byte → Instr}
    (h : ∀ a b, exec (cmd b) (st a) = .next (st (f a b))) (m : List Byte) (a : α) :
    runAll (m.map cmd) (st a) = .next (st (m.foldl f a)) := by
  induction m generalizing a with
  | nil => rfl
  | cons b m ih => rw [List.map_cons, runAll, h]; exact ih (f a b)

/-- `S8_MSG` leaves the message's sum and the answer of its last command (R90, R100). -/
theorem runAll_s8Msg (m : List Byte) (s : State) :
    runAll (s8Msg m) s = .next ({ s with s8Acc := sum8 m }.answer .ok 0#32 []) := by
  rw [s8Msg, runAll, exec_s8Init]
  exact runAll_map_eq_foldl (st := fun a => { s with s8Acc := a }.answer .ok 0#32 [])
    (fun a b => exec_s8Byte _ b) m 0x00#8

/-- A running sum reduces after every addition, the number only once at the end. -/
theorem foldl_add_toNat (m : List Byte) (a : Byte) :
    (m.foldl (fun acc b => acc + b) a).toNat = (a.toNat + (m.map BitVec.toNat).sum) % 256 := by
  induction m generalizing a with
  | nil => exact (Nat.mod_eq_of_lt a.isLt).symm
  | cons b m ih =>
    calc (m.foldl (fun acc b => acc + b) (a + b)).toNat
        = ((a.toNat + b.toNat) % 256 + (m.map BitVec.toNat).sum) % 256 := by rw [ih, BitVec.toNat_add]
      _ = (a.toNat + (b.toNat + (m.map BitVec.toNat).sum)) % 256 := by rw [Nat.mod_add_mod, Nat.add_assoc]
      _ = (a.toNat + ((b :: m).map BitVec.toNat).sum) % 256 := by rw [List.map_cons, List.sum_cons]

/-- `sum8` is the sum of the bytes as numbers, reduced once at the end (R100). -/
theorem sum8_toNat (m : List Byte) : (sum8 m).toNat = (m.map BitVec.toNat).sum % 256 := by
  simpa [sum8] using foldl_add_toNat m 0x00#8

/-! ## The statements -/

/-- Settles O7: `S8_MSG` leaves `sum8` of the message, which is the sum reduced once. -/
theorem s8MessageGivesTheChecksumFunction : Obligations.S8MessageGivesTheChecksumFunction := by
  unfold Obligations.S8MessageGivesTheChecksumFunction
  intro m s
  refine ⟨{ s with s8Acc := sum8 m }.answer .ok 0#32 [], runAll_s8Msg m s, rfl, sum8_toNat m, ?_, fun c => ?_⟩
  · rw [← sum8_toNat]
    exact exec_s8Read _
  · simp only [← sum8_toNat, eq_comm (a := c.toNat)]
    exact exec_s8Check _ c

/-- Settles O1: three words of format N, and the equation of each command. -/
theorem initCommandsLoadTheStartValue : Obligations.InitCommandsLoadTheStartValue := by
  unfold Obligations.InitCommandsLoadTheStartValue
  exact ⟨runsAs_of_formatN, runsAs_of_formatN, runsAs_of_formatN,
    fun s => ⟨exec_s8Init s, exec_c16Init s, exec_c8Init s⟩⟩

/-- Settles O2: addition of bytes is addition of numbers modulo 256. -/
theorem s8ByteAddsModulo256 : Obligations.S8ByteAddsModulo256 := by
  unfold Obligations.S8ByteAddsModulo256
  refine ⟨runsAs_of_formatB, fun s b => ?_⟩
  have hsum : BitVec.ofNat 8 ((s.s8Acc.toNat + b.toNat) % 256) = s.s8Acc + b := by
    rw [show 256 = 2 ^ 8 from rfl, ← BitVec.toNat_add, BitVec.ofNat_toNat, BitVec.setWidth_eq]
  rw [hsum]
  exact exec_s8Byte s b

/-- Settles O5: three words of format N, and the equation of each command. -/
theorem readCommandsAnswerTheChecksum : Obligations.ReadCommandsAnswerTheChecksum := by
  unfold Obligations.ReadCommandsAnswerTheChecksum
  exact ⟨runsAs_of_formatN, runsAs_of_formatN, runsAs_of_formatN,
    fun s => ⟨exec_s8Read s, exec_c16Read s, exec_c8Read s⟩⟩

/-- Settles O6: each CHECK answers its comparison, and the equivalent test is arithmetic for the sum, the shifts'
keeping of zero for the CRC. -/
theorem checkCommandsCompareWithoutFolding : Obligations.CheckCommandsCompareWithoutFolding := by
  unfold Obligations.CheckCommandsCompareWithoutFolding
  refine ⟨runsAs_of_formatB, runsAs_of_formatB, fun s c => ?_⟩
  refine ⟨fun h => ?_, fun h => ?_, complement_eq_iff_add_mod s.s8Acc c, fun h => ?_, fun h => ?_,
    (crc8Step_eq_zero_iff s.c8Acc c).symm⟩
  · rw [exec_s8Check, if_pos h]; rfl
  · rw [exec_s8Check, if_neg h]; rfl
  · rw [exec_c8Check, if_pos h]; rfl
  · rw [exec_c8Check, if_neg h]; rfl

end Sys2Proof.Machine

/-! PROOFS. The byte command of CRC16: the register's shifts are shifts of its number (41_crc16.md). -/

namespace Sys2Proof.Machine

/-- What a register does in one shift, seen as a number, it does in any number of shifts. -/
theorem repeat_toNat {w : Nat} {shift : BitVec w → BitVec w} {shiftNat : Nat → Nat}
    (h : ∀ r, (shift r).toNat = shiftNat r.toNat) (n : Nat) (r : BitVec w) :
    (Nat.repeat shift n r).toNat = Nat.repeat shiftNat n r.toNat := by
  induction n with
  | zero => rfl
  | succ n ih => rw [Nat.repeat, Nat.repeat, h, ih]

/-- One shift of the CRC-16 register halves its number, and the bit shifted out is its parity (R110). -/
theorem crc16Shift_toNat (r : BitVec 16) : (crc16Shift r).toNat = crc16ShiftNat r.toNat := by
  have hodd : r.getLsbD 0 = true ↔ r.toNat % 2 = 1 := by simp [BitVec.getLsbD]
  have hhalf : (r >>> 1).toNat = r.toNat / 2 := by rw [BitVec.toNat_ushiftRight, Nat.shiftRight_one]
  rw [crc16Shift, crc16ShiftNat]
  by_cases hbit : r.toNat % 2 = 1
  · rw [if_pos (hodd.2 hbit), if_pos hbit, BitVec.toNat_xor, hhalf]
    rfl
  · rw [if_neg (mt hodd.1 hbit), if_neg hbit, hhalf]

/-- `crc16_step` on numbers: the byte exclusive-ored into the register, then eight shifts (R110). -/
theorem crc16Step_toNat (acc : BitVec 16) (b : Byte) :
    (crc16Step acc b).toNat = Nat.repeat crc16ShiftNat 8 (acc.toNat ^^^ b.toNat) := by
  rw [crc16Step, repeat_toNat crc16Shift_toNat, BitVec.toNat_xor, BitVec.toNat_setWidth_of_le (by decide)]

theorem exec_c16Byte (s : State) (b : Byte) :
    exec (.c16Byte b) s = .next ({ s with c16Acc := crc16Step s.c16Acc b }.answer .ok 0#32 []) := rfl

/-- Settles O3: a word of format B, and the command's equation with the register read as a number. -/
theorem c16ByteFoldsTheByteInEightShifts : Obligations.C16ByteFoldsTheByteInEightShifts := by
  unfold Obligations.C16ByteFoldsTheByteInEightShifts
  refine ⟨runsAs_of_formatB, fun s b => ?_⟩
  rw [← crc16Step_toNat, BitVec.ofNat_toNat, BitVec.setWidth_eq]
  exact exec_c16Byte s b

end Sys2Proof.Machine

/-! PROOFS. The byte command of CRC8: the register's shifts are shifts of its number (42_crc8.md). -/

namespace Sys2Proof.Machine

/-- One shift of the CRC-8 register doubles its number modulo 256, and the bit shifted out tells whether the number was
128 or more (R120). -/
theorem crc8Shift_toNat (r : Byte) : (crc8Shift r).toNat = crc8ShiftNat r.toNat := by
  have htop : r.getLsbD 7 = true ↔ 128 ≤ r.toNat := by
    rw [← BitVec.msb_eq_getLsbD_last r, BitVec.msb_eq_decide, decide_eq_true_iff]
  have hdouble : (r <<< 1).toNat = 2 * r.toNat % 256 := by
    rw [BitVec.toNat_shiftLeft, Nat.shiftLeft_eq, Nat.mul_comm]
  rw [crc8Shift, crc8ShiftNat]
  by_cases hbit : 128 ≤ r.toNat
  · rw [if_pos (htop.2 hbit), if_pos hbit, BitVec.toNat_xor, hdouble]
    rfl
  · rw [if_neg (mt htop.1 hbit), if_neg hbit, hdouble]

/-- `crc8_step` on numbers: the byte exclusive-ored into the register, then eight shifts (R120). -/
theorem crc8Step_toNat (acc b : Byte) :
    (crc8Step acc b).toNat = Nat.repeat crc8ShiftNat 8 (acc.toNat ^^^ b.toNat) := by
  rw [crc8Step, repeat_toNat crc8Shift_toNat, BitVec.toNat_xor]

theorem exec_c8Byte (s : State) (b : Byte) :
    exec (.c8Byte b) s = .next ({ s with c8Acc := crc8Step s.c8Acc b }.answer .ok 0#32 []) := rfl

/-- Settles O4: a word of format B, and the command's equation with the register read as a number. -/
theorem c8ByteFoldsTheByteInEightShifts : Obligations.C8ByteFoldsTheByteInEightShifts := by
  unfold Obligations.C8ByteFoldsTheByteInEightShifts
  refine ⟨runsAs_of_formatB, fun s b => ?_⟩
  rw [← crc8Step_toNat, BitVec.ofNat_toNat, BitVec.setWidth_eq]
  exact exec_c8Byte s b

end Sys2Proof.Machine

/-! PROOFS. The deframer's commands, one by one: what `DF_START`, `DF_EMPTY` and `DF_READ` do, and what `DF_BYTE` does
in each phase (43_deframer.md section 3). -/

namespace Sys2Proof.Machine

/-! ## The words that run a command of format S or I -/

/-- Format S: the 8 bits above the two fields are zero. -/
theorem runsAs_of_formatS {op : Byte} {i : BitVec 16 → Byte → Instr}
    (hdec : ∀ arg, decode (op ++ arg) = operand .S arg (i (argAvail arg) (argByte arg)) := by simp [decode]) :
    RunsAs op (fun arg => arg.extractLsb' 24 8 = 0#8) (fun arg => i (arg.extractLsb' 8 16) (arg.extractLsb' 0 8)) :=
  runsAs_of_decode_eq_operand .S
    (fun arg => (zeroBitsClear_S arg).trans (highField_eq_zero 24 8 rfl arg).symm) hdec

/-- Format I: the 28 bits above the index are zero, and the index is at most 9. -/
theorem runsAs_of_formatI {op : Byte} {i : BitVec 4 → Instr}
    (hdec : ∀ arg, decode (op ++ arg) = indexOperand arg (i (argIndex arg)) := by simp [decode]) :
    RunsAs op (fun arg => arg.extractLsb' 4 28 = 0#28 ∧ (arg.extractLsb' 0 4).toNat ≤ 9)
      (fun arg => i (arg.extractLsb' 0 4)) := by
  intro s rest arg hport
  have hzero : Format.I.zeroBitsClear arg = true ↔ arg.extractLsb' 4 28 = 0#28 :=
    (zeroBitsClear_I arg).trans (highField_eq_zero 4 28 rfl arg).symm
  refine ⟨fun ⟨hz, hi⟩ => ?_, fun hbad => ?_⟩
  · have hok : indexOperand arg (i (argIndex arg)) = .ok (i (argIndex arg)) :=
      (if_pos hi).trans (operand_eq_ok.2 ⟨hzero.2 hz, rfl⟩)
    exact step_of_decode_eq_ok hport ((hdec arg).trans hok)
  · have herr : indexOperand arg (i (argIndex arg)) = .error .illOperand := by
      by_cases hi : (argIndex arg).toNat ≤ 9
      · exact (if_pos hi).trans (if_neg fun hz => hbad ⟨hzero.1 hz, hi⟩)
      · exact if_neg hi
    exact step_of_decode_eq_error hport ((hdec arg).trans herr)

/-! ## `DF_START`, `DF_EMPTY`, `DF_READ` -/

/-- What `DF_START` clears in all four outcomes (R134). -/
def State.cleared (s : State) : State := { s with dfCnt := 0#7, dfEsc := false, dfIdx := 0#6, dfSum := 0x00#8 }

section
variable {s : State} {avail : BitVec 16} {peek : Byte}

theorem exec_dfStart_of_running (h : s.dfPhase ≠ .idle) :
    exec (.dfStart avail peek) s = .next (s.raiseFault .dfSequence) := by
  simp [exec, execDfStart, h]

theorem exec_dfStart_of_nothing (h : s.dfPhase = .idle) (ha : avail = 0#16) :
    exec (.dfStart avail peek) s =
      .next ({ s.cleared with dfResult := .notReady }.answer .fail 2#32 [.tx reqFrame]) := by
  simp [exec, execDfStart, h, ha, State.cleared, DfResult.word, DfResult.val]

theorem exec_dfStart_of_badStart (h : s.dfPhase = .idle) (ha : avail ≠ 0#16) (hp : peek ≠ 0x7E#8) :
    exec (.dfStart avail peek) s =
      .next ({ s.cleared with dfResult := .badStart, dfDrain := 60#6, dfPhase := .drain }.answer .pending 0#32
        [.tx reqFrame]) := by
  simp [exec, execDfStart, h, ha, hp, State.cleared, frameDelim, drainMax]

theorem exec_dfStart_of_tooFew (h : s.dfPhase = .idle) (ha : avail ≠ 0#16) (hp : peek = 0x7E#8)
    (hn : avail.toNat < 47) :
    exec (.dfStart avail peek) s =
      .next ({ s.cleared with dfResult := .notReady }.answer .fail 2#32 [.tx reqFrame]) := by
  simp [exec, execDfStart, h, ha, hp, hn, State.cleared, frameDelim, minFrame, DfResult.word, DfResult.val]

theorem exec_dfStart_of_enough (h : s.dfPhase = .idle) (hp : peek = 0x7E#8) (hn : 47 ≤ avail.toNat) :
    exec (.dfStart avail peek) s =
      .next ({ s.cleared with dfResult := .none, dfPhase := .info }.answer .pending 0#32 [.tx reqFrame]) := by
  have ha : avail ≠ 0#16 := by
    rintro rfl
    simp at hn
  simp [exec, execDfStart, h, ha, hp, Nat.not_lt.2 hn, State.cleared, frameDelim, minFrame]

theorem exec_dfEmpty_of_idle (h : s.dfPhase = .idle) : exec .dfEmpty s = .next (s.raiseFault .dfSequence) := by
  simp [exec, execDfEmpty, h]

theorem exec_dfEmpty_of_drain (h : s.dfPhase = .drain) :
    exec .dfEmpty s = .next ({ s with dfDrain := 0#6, dfPhase := .idle }.answer .fail s.dfResult.word []) := by
  simp [exec, execDfEmpty, h]

theorem exec_dfEmpty_of_underrun (hidle : s.dfPhase ≠ .idle) (hdrain : s.dfPhase ≠ .drain) :
    exec .dfEmpty s =
      .next ({ s with dfResult := .underrun, dfEsc := false, dfPhase := .idle }.answer .fail 8#32 []) := by
  cases h : s.dfPhase with
  | idle => exact absurd h hidle
  | drain => exact absurd h hdrain
  | info | data | chk | fin => simp [exec, execDfEmpty, h, DfResult.word, DfResult.val]

end

/-- Settles O10: the word's format, the fault, and one equation for each way through the tests. -/
theorem dfStartFourOutcomes : Obligations.DfStartFourOutcomes := by
  unfold Obligations.DfStartFourOutcomes
  refine ⟨runsAs_of_formatS, fun s avail peek => ?_⟩
  exact ⟨exec_dfStart_of_running, exec_dfStart_of_nothing, exec_dfStart_of_badStart, exec_dfStart_of_tooFew,
    exec_dfStart_of_enough⟩

/-- Settles O17: the fault, the reason an attempt in DRAIN already has, and UNDERRUN elsewhere. -/
theorem dfEmptyEndsTheAttempt : Obligations.DfEmptyEndsTheAttempt := by
  unfold Obligations.DfEmptyEndsTheAttempt
  exact ⟨runsAs_of_formatN, fun s => ⟨exec_dfEmpty_of_idle, exec_dfEmpty_of_drain, exec_dfEmpty_of_underrun⟩⟩

/-- Settles O18: the two faults in the order of the tests, then the word. -/
theorem dfReadAnswersOneWord : Obligations.DfReadAnswersOneWord := by
  unfold Obligations.DfReadAnswersOneWord
  refine ⟨runsAs_of_formatI, fun s i => ⟨fun hi => ?_, fun hi hvalid => ?_, fun hi hvalid => ?_⟩⟩
  · have hno : ¬ i.toNat < 10 := by omega
    simp [exec, execDfRead, hno, State.raiseFault_eq_afterFault, FaultCode.val]
  · have hlt : i.toNat < 10 := by omega
    simp [exec, execDfRead, hlt, hvalid, State.raiseFault_eq_afterFault, FaultCode.val]
  · simp [exec, execDfRead, hi, hvalid, State.answer]

/-! ## `DF_BYTE`: the rule that each phase runs (R135) -/

section
variable {s : State} {b v : Byte}

theorem exec_dfByte_of_info (h : s.dfPhase = .info) :
    exec (.dfByte b) s = { s with dfCnt := s.dfCnt + 1 }.dfInfoByte b := by
  simp [exec, execDfByte, h]

theorem exec_dfByte_of_data (h : s.dfPhase = .data) :
    exec (.dfByte b) s = { s with dfCnt := s.dfCnt + 1 }.dfDestuff State.dfPayload b := by
  simp [exec, execDfByte, h]

theorem exec_dfByte_of_chk (h : s.dfPhase = .chk) :
    exec (.dfByte b) s = { s with dfCnt := s.dfCnt + 1 }.dfDestuff State.dfChecksum b := by
  simp [exec, execDfByte, h]

theorem exec_dfByte_of_fin (h : s.dfPhase = .fin) :
    exec (.dfByte b) s = { s with dfCnt := s.dfCnt + 1 }.dfEnd b := by
  simp [exec, execDfByte, h]

theorem exec_dfByte_of_drain (h : s.dfPhase = .drain) :
    exec (.dfByte b) s = { s with dfCnt := s.dfCnt + 1 }.dfDrop := by
  simp [exec, execDfByte, h]

/-- A byte that delivers `v` hands it on, with the escape state cleared (R138). -/
theorem State.dfDestuff_of_delivers {deliver : Byte → State → Out} (h : s.Delivers b v) :
    s.dfDestuff deliver b = deliver v { s with dfEsc := false } := by
  obtain ⟨hesc, hb, rfl⟩ | ⟨hesc, hrow⟩ := h
  · have hs : { s with dfEsc := false } = s := by rw [← hesc]
    simp [State.dfDestuff, hesc, hb, escMarker, hs]
  · simp [State.dfDestuff, hesc, (unstuff_eq_some b v).2 hrow]

/-- The escape marker is remembered (R138). -/
theorem State.dfDestuff_of_marker {deliver : Byte → State → Out} (h : s.dfEsc = false) :
    s.dfDestuff deliver 0x7D#8 = .next ({ s with dfEsc := true }.answer .pending 0#32 []) := by
  simp [State.dfDestuff, h, escMarker]

/-- A delivered value in phase DATA is a payload value. -/
theorem exec_dfByte_of_data_of_delivers (hphase : s.dfPhase = .data) (h : s.Delivers b v) :
    exec (.dfByte b) s = State.dfPayload v { s with dfCnt := s.dfCnt + 1, dfEsc := false } :=
  (exec_dfByte_of_data hphase).trans (State.dfDestuff_of_delivers (s := { s with dfCnt := s.dfCnt + 1 }) h)

/-- A delivered value in phase CHK is the checksum value. -/
theorem exec_dfByte_of_chk_of_delivers (hphase : s.dfPhase = .chk) (h : s.Delivers b v) :
    exec (.dfByte b) s = State.dfChecksum v { s with dfCnt := s.dfCnt + 1, dfEsc := false } :=
  (exec_dfByte_of_chk hphase).trans (State.dfDestuff_of_delivers (s := { s with dfCnt := s.dfCnt + 1 }) h)

/-- A running sum of bytes as arithmetic on numbers. -/
theorem ofNat_toNat_add_mod (x y : Byte) : BitVec.ofNat 8 ((x.toNat + y.toNat) % 256) = x + y := by
  rw [show 256 = 2 ^ 8 from rfl, ← BitVec.toNat_add, BitVec.ofNat_toNat, BitVec.setWidth_eq]

end

/-! ## The statements about `DF_BYTE` -/

/-- Settles O11: the cases of an info byte, with the index before it. -/
theorem dfByteTakesTheInfoBlock : Obligations.DfByteTakesTheInfoBlock := by
  unfold Obligations.DfByteTakesTheInfoBlock
  intro s b hidx hphase
  have hsum : (if s.dfIdx.toNat = 0 then s.dfSum else BitVec.ofNat 8 ((s.dfSum.toNat + b.toNat) % 256)) =
      if 1 ≤ s.dfIdx.toNat then s.dfSum + b else s.dfSum := by
    rw [ofNat_toNat_add_mod, ← ite_not]
    simp only [Nat.one_le_iff_ne_zero, ne_eq]
  rw [hsum, exec_dfByte_of_info hphase]
  obtain ⟨hlt, h⟩ | ⟨h4, hzero, h⟩ | ⟨h4, hdev, h⟩ | ⟨h5, -⟩ :=
    State.dfInfoByte_cases b { s with dfCnt := s.dfCnt + 1 }
  · refine ⟨fun _ => h, fun h4 => ?_, fun h4 => ?_, fun h4 => ?_⟩ <;> exact absurd h4 (Nat.ne_of_lt hlt)
  · exact ⟨fun hlt => absurd h4 (Nat.ne_of_lt hlt), fun _ _ => h, fun _ hdev => absurd hzero hdev,
      fun _ hdev => absurd hzero hdev⟩
  · refine ⟨fun hlt => absurd h4 (Nat.ne_of_lt hlt), fun _ hzero => absurd hzero hdev, fun _ _ => h,
      fun _ _ hcnt => ⟨_, h, ?_⟩⟩
    simp [State.afterFailure, hcnt]
  · exact absurd hidx (Nat.not_lt.2 h5)

/-- What a delivered payload value leaves (R139), cell `DF.idx` of the buffer written. -/
def State.withPayload (v : Byte) (s : State) : State :=
  { s with buf := s.buf.write s.dfIdx.toNat v, dfSum := s.dfSum + v,
           dfPhase := if s.dfIdx.toNat = 39 then .chk else .data,
           dfIdx := if s.dfIdx.toNat = 39 then s.dfIdx else s.dfIdx + 1 }

/-- Both outcomes of a delivered payload value as one state. -/
theorem State.dfPayload_eq {s : State} (v : Byte) (hphase : s.dfPhase = .data) (hidx : s.dfIdx.toNat ≤ 39) :
    s.dfPayload v = .next ((s.withPayload v).answer .pending 0#32 []) := by
  obtain ⟨hlt, h⟩ | ⟨h39, h⟩ | ⟨h40, -⟩ := s.dfPayload_cases v
  · simp [h, State.withPayload, Nat.ne_of_lt hlt, ← hphase]
  · simp [h, State.withPayload, h39]
  · omega

/-- Settles O13: the delivered value is one write to the buffer. -/
theorem dfByteStoresThePayload : Obligations.DfByteStoresThePayload := by
  unfold Obligations.DfByteStoresThePayload
  intro s b v hphase hidx hwf hdel
  have hexec : exec (.dfByte b) s =
      .next ((State.withPayload v { s with dfCnt := s.dfCnt + 1, dfEsc := false }).answer .pending 0#32 []) := by
    rw [exec_dfByte_of_data_of_delivers hphase hdel]
    exact State.dfPayload_eq v hphase hidx
  refine ⟨_, hexec, Memory.read_write_same _ _ hwf, fun a ha => Memory.read_write_other _ _ ha,
    Memory.wf_write _ hwf (Nat.lt_succ_of_le hidx), ?_⟩
  rw [ofNat_toNat_add_mod]
  rfl

/-- Settles O14: the complement of the sum, as a number. -/
theorem dfByteComparesTheChecksum : Obligations.DfByteComparesTheChecksum := by
  unfold Obligations.DfByteComparesTheChecksum
  intro s b v hphase hdel
  have hcompl : v.toNat = 255 - s.dfSum.toNat ↔ v = ~~~s.dfSum := by
    rw [← BitVec.toNat_inj, BitVec.toNat_not]
  rw [ne_eq, hcompl, exec_dfByte_of_chk_of_delivers hphase hdel]
  obtain ⟨heq, h⟩ | ⟨hne, h⟩ := State.dfChecksum_cases v { s with dfCnt := s.dfCnt + 1, dfEsc := false }
  · exact ⟨fun _ => h, fun hne => absurd heq hne⟩
  · exact ⟨fun heq => absurd heq hne, fun _ => h⟩

/-- Settles O15: the last byte of a good frame, or the failure; after 46 bytes or more the failing byte is the last that
belongs to the frame, so nothing is left to drain. -/
theorem dfByteEndsTheFrame : Obligations.DfByteEndsTheFrame := by
  unfold Obligations.DfByteEndsTheFrame
  intro s b hphase
  rw [exec_dfByte_of_fin hphase]
  obtain ⟨hb, h⟩ | ⟨hb, h⟩ := State.dfEnd_cases b { s with dfCnt := s.dfCnt + 1 }
  · refine ⟨fun _ => ⟨_, h, fun i hi => ?_, rfl⟩, fun hne => absurd hb hne, fun hne => absurd hb hne⟩
    exact (s.buf.reading_getElem hi).trans (s.buf.memRead_four (4 * i))
  · refine ⟨fun heq => absurd heq hb, fun _ => h, fun _ hlo hhi => ⟨_, h, ?_⟩⟩
    have hleft : 47 - (s.dfCnt.toNat + 1) % 128 = 0 := by omega
    simp [State.afterFailure, hleft, DfResult.val]

/-- Settles O16: `DF.drain` reaches 0 when it was 1. -/
theorem dfByteDrains : Obligations.DfByteDrains := by
  unfold Obligations.DfByteDrains
  intro s b hphase hdrain
  have hlast : s.dfDrain - 1 = 0#6 ↔ s.dfDrain.toNat = 1 := by bv_omega
  have hless : BitVec.ofNat 6 (s.dfDrain.toNat - 1) = s.dfDrain - 1 := by bv_omega
  rw [hless, exec_dfByte_of_drain hphase]
  obtain ⟨hzero, h⟩ | ⟨hpos, h⟩ := State.dfDrop_cases { s with dfCnt := s.dfCnt + 1 }
  · exact ⟨fun _ => h, fun hlt => absurd (hlast.1 hzero) (Nat.ne_of_gt hlt)⟩
  · exact ⟨fun h1 => absurd (hlast.2 h1) hpos, fun _ => h⟩

end Sys2Proof.Machine

/-! PROOFS. The attempt over a frame (43_deframer.md sections 2 and 5): what the host's loop takes, the registers after
any part of the payload, a good frame to its end (R133), and a frame with one damaged byte (R155). -/

namespace Sys2Proof.Machine

/-! ## The loop of the attempt -/

/-- Bytes the loop takes from the Channel whole, whatever follows them, while the block goes from `s` to `t`. -/
def Takes (bs : List Byte) (s t : State) : Prop :=
  ∀ ch n, feedChannel (bs ++ ch) n s = feedChannel ch (n + bs.length) t

section
variable {s t u : State} {bs bs' : List Byte} {b : Byte}

theorem Takes.nil : Takes [] s s := fun _ _ => rfl

theorem Takes.append (h : Takes bs s t) (h' : Takes bs' t u) : Takes (bs ++ bs') s u := by
  intro ch n
  rw [List.append_assoc, h, h', List.length_append, Nat.add_assoc]

theorem Takes.byte (hw : s.wantsByte = true) (h : exec (.dfByte b) s = .next t) : Takes [b] s t := by
  intro ch n
  simp [feedChannel, hw, h]

theorem State.wantsByte_of_resp {v : Word} (h : s.resp = some ⟨.pending, v⟩) : s.wantsByte = true := by
  simp [State.wantsByte, h]

/-- Once the attempt has ended, the loop takes no more bytes. -/
theorem feedChannel_of_answered (hw : s.wantsByte = false) (ch : List Byte) (n : Nat) :
    feedChannel ch n s = (.next s, n) := by
  cases ch <;> simp [feedChannel, hw]

/-- A Channel that holds a frame's worth of bytes, the first of them the start byte, passes the tests of `DF_START`. -/
theorem attempt_eq_feedChannel {ch : List Byte} (hphase : s.dfPhase = .idle) (hhead : ch.headD 0x00#8 = 0x7E#8)
    (hlen : 47 ≤ ch.length) :
    attempt ch s = feedChannel ch 0
      ({ s.cleared with dfResult := .none, dfPhase := .info }.answer .pending 0#32 [.tx reqFrame]) := by
  have havail : 47 ≤ (availOf ch.length).toNat := by
    simp only [availOf, BitVec.toNat_ofNat]
    omega
  rw [attempt, exec_dfStart_of_enough hphase hhead havail]

end

/-! ## Values and the bytes that stand for them -/

/-- The stuffed bytes that stand for a value (R132, R138): the byte itself, or the escape marker and a byte of the
table. -/
inductive Spells : List Byte → Byte → Prop where
  | plain {v : Byte} (h : v ≠ 0x7D#8) : Spells [v] v
  | escaped {e v : Byte} (h : (e, v) ∈ escapeTable) : Spells [0x7D#8, e] v

/-- What the stuffing function writes for a byte stands for it (R133). -/
theorem spells_stuffByte (v : Byte) : Spells (stuffByte v) v := by
  unfold stuffByte
  split
  · next h => exact .escaped (by simp [escapeTable, h])
  split
  · next h => exact .escaped (by simp [escapeTable, h])
  split
  · next h => exact .escaped (by simp [escapeTable, h])
  split
  · next h => exact .escaped (by simp [escapeTable, h])
  · next h _ _ => exact .plain h

theorem stuff_eq_flatMap (p : List Byte) : stuff p = p.flatMap stuffByte := by
  induction p with
  | nil => rfl
  | cons v p ih => rw [stuff, ih, List.flatMap_cons]

/-- In a phase that de-stuffs, the bytes of a value are taken when the phase accepts the value. -/
theorem Takes.of_spells {deliver : Byte → State → Out} {s t : State} {bs : List Byte} {v : Byte}
    (hrule : ∀ (u : State) (b : Byte), u.dfPhase = s.dfPhase →
      exec (.dfByte b) u = { u with dfCnt := u.dfCnt + 1 }.dfDestuff deliver b)
    (hresp : s.resp = some ⟨.pending, 0#32⟩) (hevents : s.events = []) (hesc : s.dfEsc = false) (h : Spells bs v)
    (hdel : deliver v { s with dfCnt := s.dfCnt + BitVec.ofNat 7 bs.length } = .next t) : Takes bs s t := by
  cases h with
  | plain hv =>
    refine .byte (State.wantsByte_of_resp hresp) ?_
    rw [hrule s v rfl, State.dfDestuff_of_delivers (s := { s with dfCnt := s.dfCnt + 1 }) (.inl ⟨hesc, hv, rfl⟩),
      ← hdel, ← hesc]
    rfl
  | @escaped e v hrow =>
    -- The marker is answered PENDING with no event, as the byte before it was: only `DF.esc` and the count move.
    have hmarker : exec (.dfByte 0x7D#8) s = .next { s with dfCnt := s.dfCnt + 1, dfEsc := true } := by
      rw [hrule s _ rfl, State.dfDestuff_of_marker (s := { s with dfCnt := s.dfCnt + 1 }) hesc]
      simp [State.answer, hresp, hevents]
    have hsecond : exec (.dfByte e) { s with dfCnt := s.dfCnt + 1, dfEsc := true } = .next t := by
      rw [hrule { s with dfCnt := s.dfCnt + 1, dfEsc := true } e rfl,
        State.dfDestuff_of_delivers (s := { s with dfCnt := s.dfCnt + 1 + 1, dfEsc := true }) (.inr ⟨rfl, hrow⟩),
        ← hdel, ← hesc]
      simp [BitVec.add_assoc]
    exact (Takes.byte (State.wantsByte_of_resp hresp) hmarker).append
      (.byte (State.wantsByte_of_resp hresp) hsecond)

/-! ## The registers after a part of the payload -/

theorem sum8_append_singleton (m : List Byte) (v : Byte) : sum8 (m ++ [v]) = sum8 m + v := by
  simp [sum8]

/-- A write behind the first `n` bytes appends to them. -/
theorem Memory.bytes_write {m : Memory} (n : Nat) (v : Byte) (h : m.wf = true) :
    (m.write n v).bytes (n + 1) = m.bytes n ++ [v] := by
  have hbelow : (List.range n).map (m.write n v).read = (List.range n).map m.read :=
    List.map_congr_left fun a ha => Memory.read_write_other m v (Nat.ne_of_lt (List.mem_range.1 ha))
  simp [Memory.bytes, List.range_succ, hbelow, Memory.read_write_same n v h]

/-- An attempt started in `s₀` has taken `n` bytes: info bytes 1 to 4, which are `info`, and the payload values `vs`. -/
structure Collected (info : List Byte) (s₀ : State) (vs : List Byte) (n : Nat) (s : State) : Prop where
  resp : s.resp = some ⟨.pending, 0#32⟩
  events : s.events = []
  phase : s.dfPhase = if vs.length = 40 then .chk else .data
  idx : s.dfIdx.toNat = min vs.length 39
  esc : s.dfEsc = false
  cnt : s.dfCnt = BitVec.ofNat 7 n
  sum : s.dfSum = sum8 (info ++ vs)
  buf : s₀.buf.wf = true → s.buf.wf = true ∧ s.buf.bytes vs.length = vs
  rd : s.rd = s₀.rd
  rdValid : s.rdValid = s₀.rdValid

/-- An attempt started in `s₀` has taken the bytes `bs` of the info block, the start byte among them. -/
structure InfoTaken (s₀ : State) (bs : List Byte) (s : State) : Prop where
  wants : s.wantsByte = true
  phase : s.dfPhase = .info
  idx : s.dfIdx.toNat = bs.length
  esc : s.dfEsc = false
  cnt : s.dfCnt = BitVec.ofNat 7 bs.length
  sum : s.dfSum = sum8 bs.tail
  device : ∀ b, bs[3]? = some b → s.dfInfo[3] = b
  buf : s.buf = s₀.buf
  rd : s.rd = s₀.rd
  rdValid : s.rdValid = s₀.rdValid

section
variable {s₀ s : State} {bs : List Byte}

/-- The first byte of the block is not summed (R140). -/
theorem sum8_tail_append (bs : List Byte) (b : Byte) :
    sum8 (bs ++ [b]).tail = if 1 ≤ bs.length then sum8 bs.tail + b else sum8 bs.tail := by
  cases bs with
  | nil => rfl
  | cons a bs => simpa using sum8_append_singleton bs b

/-- One of the first four bytes of the block (R136). -/
theorem InfoTaken.byte (hs : InfoTaken s₀ bs s) (hlt : bs.length < 4) (b : Byte) :
    ∃ t, Takes [b] s t ∧ InfoTaken s₀ (bs ++ [b]) t := by
  have hidx := hs.idx
  obtain ⟨h4, h⟩ | ⟨h4, -⟩ | ⟨h4, -⟩ | ⟨h5, -⟩ := State.dfInfoByte_cases b { s with dfCnt := s.dfCnt + 1 }
  · refine ⟨_, .byte hs.wants ((exec_dfByte_of_info hs.phase).trans h), ?_⟩
    exact {
      wants := rfl
      phase := hs.phase
      idx := by
        simp [hidx]
        omega
      esc := hs.esc
      cnt := by simp [hs.cnt, BitVec.ofNat_add]
      sum := by simp [sum8_tail_append, hidx, hs.sum]
      device := fun b' hb' => by
        obtain h3 | h3 : bs.length = 3 ∨ bs.length < 3 := by omega
        · simp_all
        · rw [List.getElem?_eq_none (by simp; omega)] at hb'
          cases hb'
      buf := hs.buf
      rd := hs.rd
      rdValid := hs.rdValid }
  · exact absurd (hidx.symm.trans h4) (Nat.ne_of_lt hlt)
  · exact absurd (hidx.symm.trans h4) (Nat.ne_of_lt hlt)
  · exact absurd (h5.trans_eq hidx : 5 ≤ bs.length) (by omega)

/-- The fifth byte, when the device reports no malfunction (R137). -/
theorem InfoTaken.lastByte (hs : InfoTaken s₀ bs s) (hlen : bs.length = 4) (hdev : bs[3]? = some 0x00#8) (b : Byte) :
    ∃ t, Takes [b] s t ∧ Collected (bs ++ [b]).tail s₀ [] 5 t := by
  have hidx := hs.idx
  have hzero := hs.device _ hdev
  obtain ⟨h4, -⟩ | ⟨h4, -, h⟩ | ⟨-, hne, -⟩ | ⟨h5, -⟩ := State.dfInfoByte_cases b { s with dfCnt := s.dfCnt + 1 }
  · exact absurd (hidx.trans hlen) (Nat.ne_of_lt h4)
  · refine ⟨_, .byte hs.wants ((exec_dfByte_of_info hs.phase).trans h), ?_⟩
    exact {
      resp := rfl
      events := rfl
      phase := rfl
      idx := rfl
      esc := hs.esc
      cnt := by simp [hs.cnt, hlen]
      sum := by simp [sum8_tail_append, hidx, hs.sum]
      buf := fun hwf => ⟨by simp [hs.buf, hwf], rfl⟩
      rd := hs.rd
      rdValid := hs.rdValid }
  · exact absurd hzero hne
  · exact absurd (h5.trans_eq (hidx.trans hlen)) (by decide)

end

/-- After the start byte and the four info bytes the payload is empty. -/
theorem attempt_infoBlock {s : State} {a1 a2 a4 : Byte} {ch : List Byte} (hphase : s.dfPhase = .idle)
    (hlen : 42 ≤ ch.length) :
    ∃ t, Collected [a1, a2, 0x00#8, a4] s [] 5 t ∧
      attempt ([0x7E#8, a1, a2, 0x00#8, a4] ++ ch) s = feedChannel ch 5 t := by
  have h0 : InfoTaken s []
      ({ s.cleared with dfResult := .none, dfPhase := .info }.answer .pending 0#32 [.tx reqFrame]) :=
    ⟨rfl, rfl, rfl, rfl, rfl, rfl, by simp, rfl, rfl, rfl⟩
  obtain ⟨u1, htakes1, h1⟩ := h0.byte (by simp) 0x7E#8
  obtain ⟨u2, htakes2, h2⟩ := h1.byte (by simp) a1
  obtain ⟨u3, htakes3, h3⟩ := h2.byte (by simp) a2
  obtain ⟨u4, htakes4, h4⟩ := h3.byte (by simp) 0x00#8
  obtain ⟨t, htakes5, h5⟩ := h4.lastByte rfl rfl a4
  refine ⟨t, h5, ?_⟩
  rw [attempt_eq_feedChannel hphase rfl (by simp; omega)]
  exact ((((htakes1.append htakes2).append htakes3).append htakes4).append htakes5) ch 0

section
variable {info vs bs : List Byte} {s₀ s : State} {n : Nat} {v : Byte}

/-- One more payload value (R139). -/
theorem Collected.payload (hs : Collected info s₀ vs n s) (hlt : vs.length < 40) (h : Spells bs v) :
    ∃ t, Takes bs s t ∧ Collected info s₀ (vs ++ [v]) (n + bs.length) t := by
  have hidx : s.dfIdx.toNat = vs.length := by
    rw [hs.idx]
    omega
  have hphase : s.dfPhase = .data := by
    rw [hs.phase, if_neg (Nat.ne_of_lt hlt)]
  refine ⟨_, .of_spells (fun u b hu => exec_dfByte_of_data (hu.trans hphase)) hs.resp hs.events hs.esc h
    (State.dfPayload_eq v hphase (hidx.trans_le (Nat.le_of_lt_succ hlt))), ?_⟩
  exact {
    resp := rfl
    events := rfl
    phase := by simp [State.withPayload, hidx]
    idx := by
      simp only [State.answer_dfIdx, State.withPayload, hidx, List.length_append, List.length_singleton]
      split
      · omega
      · rw [BitVec.toNat_add, hidx]
        simp
        omega
    esc := hs.esc
    cnt := by simp [State.withPayload, hs.cnt, BitVec.ofNat_add]
    sum := by rw [← List.append_assoc, sum8_append_singleton, ← hs.sum]; rfl
    buf := fun hwf₀ => by
      obtain ⟨hwf, hbytes⟩ := hs.buf hwf₀
      simp only [State.answer_buf, State.withPayload, hidx, List.length_append, List.length_singleton]
      exact ⟨Memory.wf_write v hwf hlt, by rw [Memory.bytes_write _ _ hwf, hbytes]⟩
    rd := hs.rd
    rdValid := hs.rdValid }

/-- Any number of further payload values, each spelled by `code`. -/
theorem Collected.payloads {code : Byte → List Byte} (ws : List Byte) (hcode : ∀ w ∈ ws, Spells (code w) w)
    (hs : Collected info s₀ vs n s) (hlen : vs.length + ws.length ≤ 40) :
    ∃ t, Takes (ws.flatMap code) s t ∧ Collected info s₀ (vs ++ ws) (n + (ws.flatMap code).length) t := by
  induction ws generalizing vs n s with
  | nil => exact ⟨s, .nil, by simpa using hs⟩
  | cons w ws ih =>
    rw [List.length_cons] at hlen
    obtain ⟨t, htakes, ht⟩ := hs.payload (by omega) (hcode w List.mem_cons_self)
    obtain ⟨u, hrest, hu⟩ := ih (fun w' hw' => hcode w' (List.mem_cons_of_mem _ hw')) ht (by simp; omega)
    refine ⟨u, by simpa using htakes.append hrest, by simpa [Nat.add_assoc] using hu⟩

end

/-- The attempt up to any part of the payload. -/
theorem attempt_payload {s : State} {a1 a2 a4 : Byte} {ch vs : List Byte} {code : Byte → List Byte}
    (hphase : s.dfPhase = .idle) (hcode : ∀ w ∈ vs, Spells (code w) w) (hvs : vs.length ≤ 40)
    (hlen : 42 ≤ (vs.flatMap code ++ ch).length) :
    ∃ t, Collected [a1, a2, 0x00#8, a4] s vs (5 + (vs.flatMap code).length) t ∧
      attempt ([0x7E#8, a1, a2, 0x00#8, a4] ++ (vs.flatMap code ++ ch)) s =
        feedChannel ch (5 + (vs.flatMap code).length) t := by
  obtain ⟨u, hu, hattempt⟩ := attempt_infoBlock hphase hlen
  obtain ⟨t, htakes, ht⟩ := hu.payloads vs hcode (by simpa using hvs)
  exact ⟨t, ht, hattempt.trans (htakes ch 5)⟩

/-! ## A good frame to its end -/

section
variable {info p bs : List Byte} {s₀ s : State} {n : Nat} {v : Byte}

/-- After forty values the block wants the checksum. -/
theorem Collected.phase_eq_chk (hs : Collected info s₀ p n s) (hp : p.length = 40) : s.dfPhase = .chk := by
  rw [hs.phase, if_pos hp]

/-- The right checksum value, however it is spelled, leads to phase END (R141). -/
theorem Collected.checksum (hs : Collected info s₀ p n s) (hp : p.length = 40)
    (h : Spells bs (frameChecksum info p)) :
    Takes bs s ({ s with dfCnt := s.dfCnt + BitVec.ofNat 7 bs.length, dfPhase := .fin }.answer .pending 0#32 []) := by
  have hchk := hs.phase_eq_chk hp
  have hv : frameChecksum info p = ~~~s.dfSum := by
    rw [hs.sum]
    rfl
  refine .of_spells (fun u b hu => exec_dfByte_of_chk (hu.trans hchk)) hs.resp hs.events hs.esc h ?_
  obtain ⟨-, hdel⟩ | ⟨hne, -⟩ :=
    State.dfChecksum_cases (frameChecksum info p) { s with dfCnt := s.dfCnt + BitVec.ofNat 7 bs.length }
  · exact hdel
  · exact absurd hv hne

/-- A wrong one fails the attempt (R141). -/
theorem Collected.wrongChecksum (hs : Collected info s₀ p n s) (hp : p.length = 40)
    (hv : v ≠ frameChecksum info p) (h : Spells bs v) :
    Takes bs s ({ s with dfCnt := s.dfCnt + BitVec.ofNat 7 bs.length }.afterFailure .badChecksum) := by
  have hchk := hs.phase_eq_chk hp
  have hv' : v ≠ ~~~s.dfSum := by
    rw [hs.sum]
    exact hv
  refine .of_spells (fun u b hu => exec_dfByte_of_chk (hu.trans hchk)) hs.resp hs.events hs.esc h ?_
  obtain ⟨heq, -⟩ | ⟨-, hdel⟩ := State.dfChecksum_cases v { s with dfCnt := s.dfCnt + BitVec.ofNat 7 bs.length }
  · exact absurd heq hv'
  · exact hdel

/-- The end byte of a good frame (R142, R143). -/
theorem Takes.endByte (hw : s.wantsByte = true) (hphase : s.dfPhase = .fin) : Takes [0x7E#8] s s.afterSuccess := by
  refine .byte hw ((exec_dfByte_of_fin hphase).trans ?_)
  obtain ⟨-, h⟩ | ⟨hne, -⟩ := State.dfEnd_cases 0x7E#8 { s with dfCnt := s.dfCnt + 1 }
  · exact h
  · exact absurd rfl hne

/-- The right checksum value and the end byte: success. -/
theorem Collected.goodEnd (hs : Collected info s₀ p n s) (hp : p.length = 40) (h : Spells bs (frameChecksum info p)) :
    ∃ t, Takes (bs ++ [0x7E#8]) s t ∧ t.resp = some ⟨.done, 0#32⟩ ∧ t.dfPhase = .idle ∧ t.dfResult = .ok ∧
      t.rdValid = true ∧ t.buf = s.buf ∧ t.rd = s.buf.reading :=
  ⟨_, (hs.checksum hp h).append (.endByte rfl rfl), rfl, rfl, rfl, rfl, rfl, rfl⟩

/-- A wrong checksum byte in place 46 leaves one byte to drain, and the drained byte ends the attempt (R144 to R146). -/
theorem Collected.wrongChecksumByte {c : Byte} (hs : Collected info s₀ p 45 s)
    (hp : p.length = 40) (hc : c ≠ 0x7D#8) (hne : c ≠ frameChecksum info p) (b : Byte) :
    ∃ t, Takes [c, b] s t ∧ t.dfPhase = .idle ∧ t.resp = some ⟨.fail, 6#32⟩ ∧ t.dfResult = .badChecksum ∧
      t.rd = s₀.rd ∧ t.rdValid = s₀.rdValid := by
  have hcheck := hs.wrongChecksum hp hne (.plain hc)
  let u := { s with dfCnt := s.dfCnt + BitVec.ofNat 7 [c].length }.afterFailure .badChecksum
  have hphase : u.dfPhase = .drain := by simp [u, State.afterFailure, hs.cnt]
  have hw : u.wantsByte = true := by simp [u, State.afterFailure, State.wantsByte, hs.cnt]
  have hdrain : u.dfDrain - 1 = 0#6 := by simp [u, State.afterFailure, hs.cnt]
  obtain ⟨-, h⟩ | ⟨hpos, -⟩ := State.dfDrop_cases { u with dfCnt := u.dfCnt + 1 }
  · exact ⟨_, hcheck.append (.byte hw ((exec_dfByte_of_drain hphase).trans h)), rfl, rfl, rfl, hs.rd, hs.rdValid⟩
  · exact absurd hdrain hpos

end

/-! ## The words of the Reading, and the lengths of stuffed sequences -/

/-- A cell among the first `n` bytes. -/
theorem Memory.read_eq_getD_bytes (m : Memory) {n a : Nat} (h : a < n) : m.read a = (m.bytes n).getD a 0 := by
  simp [Memory.bytes, h]

/-- A word of the Reading as four of the forty payload bytes, the first at the top (R64). -/
theorem Memory.reading_getElem_eq_getD (m : Memory) {i : Nat} (hi : i < 10) :
    m.reading[i] = (m.bytes 40).getD (4 * i) 0 ++ (m.bytes 40).getD (4 * i + 1) 0 ++
      (m.bytes 40).getD (4 * i + 2) 0 ++ (m.bytes 40).getD (4 * i + 3) 0 := by
  rw [m.reading_getElem hi, m.memRead_four, m.read_eq_getD_bytes (by omega : 4 * i < 40),
    m.read_eq_getD_bytes (by omega : 4 * i + 1 < 40), m.read_eq_getD_bytes (by omega : 4 * i + 2 < 40),
    m.read_eq_getD_bytes (by omega : 4 * i + 3 < 40)]

/-- A value takes at least one byte. -/
theorem Spells.length_pos {bs : List Byte} {v : Byte} (h : Spells bs v) : 1 ≤ bs.length := by
  cases h with
  | plain => exact Nat.le_refl 1
  | escaped => exact Nat.le_succ 1

/-- Stuffing does not shorten (R133). -/
theorem length_le_length_stuff (p : List Byte) : p.length ≤ (stuff p).length := by
  induction p with
  | nil => exact Nat.le_refl 0
  | cons v p ih =>
    have hv := (spells_stuffByte v).length_pos
    simp only [stuff, List.length_append, List.length_cons]
    omega

theorem stuff_append (p q : List Byte) : stuff (p ++ q) = stuff p ++ stuff q := by
  simp [stuff_eq_flatMap]

/-- A good frame: the five bytes of the block, the stuffed payload, the spelled checksum, the end byte (R152). -/
theorem frame_eq (a1 a2 a3 a4 : Byte) (p : List Byte) :
    frame [a1, a2, a3, a4] p =
      [0x7E#8, a1, a2, a3, a4] ++ (stuff p ++ (stuffByte (frameChecksum [a1, a2, a3, a4] p) ++ [0x7E#8])) := by
  simp [frame, frameDelim, stuff_append, stuff]

/-- Settles O21: the payload value by value, whatever each is spelled with, then the checksum and the end byte. -/
theorem stuffedFrameRoundTrip : Obligations.StuffedFrameRoundTrip := by
  unfold Obligations.StuffedFrameRoundTrip
  intro s a1 a2 a4 p rest hphase hwf hp
  have hspells := spells_stuffByte (frameChecksum [a1, a2, 0x00#8, a4] p)
  rw [frame_eq]
  generalize stuffByte (frameChecksum [a1, a2, 0x00#8, a4] p) = chk at hspells ⊢
  have hlen : 42 ≤ (stuff p ++ (chk ++ [0x7E#8] ++ rest)).length := by
    have hpos := hspells.length_pos
    have hle := length_le_length_stuff p
    simp only [List.length_append, List.length_singleton]
    omega
  obtain ⟨u, hu, hattempt⟩ := attempt_payload (a1 := a1) (a2 := a2) (a4 := a4) hphase
    (fun w _ => spells_stuffByte w) hp.le (stuff_eq_flatMap p ▸ hlen)
  rw [← stuff_eq_flatMap] at hu hattempt
  obtain ⟨t, htakes, hresp, hidle, hresult, hvalid, hbuf, hrd⟩ := hu.goodEnd hp hspells
  have hbytes : u.buf.bytes 40 = p := hp ▸ (hu.buf hwf).2
  have hdone : t.wantsByte = false := by simp [State.wantsByte, hresp]
  refine ⟨t, ?_, hresp, hidle, hresult, hvalid, hbuf ▸ hbytes, fun i hi => ?_⟩
  · calc attempt ([0x7E#8, a1, a2, 0x00#8, a4] ++ (stuff p ++ (chk ++ [0x7E#8])) ++ rest) s
        = feedChannel (chk ++ [0x7E#8] ++ rest) (5 + (stuff p).length) u := by
          rw [← hattempt]
          simp only [List.append_assoc]
      _ = feedChannel rest (5 + (stuff p).length + (chk ++ [0x7E#8]).length) t := htakes rest _
      _ = (.next t, ([0x7E#8, a1, a2, 0x00#8, a4] ++ (stuff p ++ (chk ++ [0x7E#8]))).length) := by
          rw [feedChannel_of_answered hdone]
          simp only [List.length_append, List.length_cons, List.length_nil]
          congr 1
          omega
  · simp only [hrd, u.buf.reading_getElem_eq_getD hi, hbytes]

/-! ## A byte damaged into the escape marker -/

/-- The failures an attempt can end in once the info block is taken. -/
abbrev lateFailures : List DfResult := [.badEscape, .badChecksum, .badEnd, .underrun]

/-- A running attempt that has taken `n` bytes, an escape marker among them: it is at least one byte behind a frame
without escapes. -/
inductive PastMarker (s : State) (n : Nat) : Prop where
  | data (hphase : s.dfPhase = .data) (hidx : s.dfIdx.toNat ≤ 39) (hn : 6 + s.dfIdx.toNat ≤ n)
  | chk (hphase : s.dfPhase = .chk) (hn : 46 ≤ n)
  | fin (hphase : s.dfPhase = .fin) (hn : 47 ≤ n)
  | drain (hphase : s.dfPhase = .drain) (hresult : s.dfResult ∈ lateFailures)

/-- Such an attempt at its end: it has failed, or it has taken more than 47 bytes. -/
structure EndedPastMarker (s : State) (n : Nat) : Prop where
  phase : s.dfPhase = .idle
  result : s.dfResult ∈ lateFailures ∨ s.dfResult = .ok ∧ 48 ≤ n

/-- An outcome that goes on, asking for another byte or at the end of the attempt. -/
inductive StaysPastMarker (n : Nat) : Out → Prop where
  | asks {t : State} (hw : t.wantsByte = true) (h : PastMarker t n) : StaysPastMarker n (.next t)
  | ends {t : State} (hw : t.wantsByte = false) (h : EndedPastMarker t n) : StaysPastMarker n (.next t)

section
variable {s : State} {n : Nat}

theorem StaysPastMarker.afterFailure {r : DfResult} (hr : r ∈ lateFailures) :
    StaysPastMarker n (.next (s.afterFailure r)) := by
  by_cases hleft : 47 - s.dfCnt.toNat = 0
  · exact .ends (by simp [State.afterFailure, State.wantsByte, hleft])
      ⟨by simp [State.afterFailure, hleft], .inl hr⟩
  · exact .asks (by simp [State.afterFailure, State.wantsByte, hleft])
      (.drain (by simp [State.afterFailure, hleft]) hr)

/-- A payload value moves the index along with the count. -/
theorem StaysPastMarker.payload (v : Byte) (hphase : s.dfPhase = .data) (hidx : s.dfIdx.toNat ≤ 39)
    (hn : 6 + s.dfIdx.toNat ≤ n) : StaysPastMarker (n + 1) (s.dfPayload v) := by
  obtain ⟨hlt, h⟩ | ⟨h39, h⟩ | ⟨h40, -⟩ := s.dfPayload_cases v
  · rw [h]
    have hnext : (s.dfIdx + 1).toNat = s.dfIdx.toNat + 1 := by
      rw [BitVec.toNat_add]
      simp
      omega
    exact .asks rfl (.data hphase (hnext.trans_le hlt) (by simp only [State.answer_dfIdx, hnext]; omega))
  · rw [h]
    exact .asks rfl (.chk rfl (by omega))
  · omega

theorem StaysPastMarker.checksum (v : Byte) (hn : 46 ≤ n) : StaysPastMarker (n + 1) (s.dfChecksum v) := by
  obtain ⟨-, h⟩ | ⟨-, h⟩ := s.dfChecksum_cases v <;> rw [h]
  · exact .asks rfl (.fin rfl (by omega))
  · exact .afterFailure (by simp)

/-- A further byte, in each of the four phases. -/
theorem PastMarker.byte (hs : PastMarker s n) (b : Byte) : StaysPastMarker (n + 1) (exec (.dfByte b) s) := by
  cases hs with
  | data hphase hidx hn =>
    rw [exec_dfByte_of_data hphase]
    obtain ⟨-, -, h⟩ | ⟨-, -, h⟩ | ⟨v, -, h⟩ :=
      State.dfDestuff_cases State.dfPayload b { s with dfCnt := s.dfCnt + 1 } <;> rw [h]
    · exact State.dfFail_eq _ _ ▸ .afterFailure (by simp)
    · exact .asks rfl (.data hphase hidx (Nat.le_succ_of_le hn))
    · exact .payload v hphase hidx hn
  | chk hphase hn =>
    rw [exec_dfByte_of_chk hphase]
    obtain ⟨-, -, h⟩ | ⟨-, -, h⟩ | ⟨v, -, h⟩ :=
      State.dfDestuff_cases State.dfChecksum b { s with dfCnt := s.dfCnt + 1 } <;> rw [h]
    · exact State.dfFail_eq _ _ ▸ .afterFailure (by simp)
    · exact .asks rfl (.chk hphase (Nat.le_succ_of_le hn))
    · exact .checksum v hn
  | fin hphase hn =>
    rw [exec_dfByte_of_fin hphase]
    obtain ⟨-, h⟩ | ⟨-, h⟩ := State.dfEnd_cases b { s with dfCnt := s.dfCnt + 1 } <;> rw [h]
    · exact .ends rfl ⟨rfl, .inr ⟨rfl, Nat.succ_le_succ hn⟩⟩
    · exact .afterFailure (by simp)
  | drain hphase hresult =>
    rw [exec_dfByte_of_drain hphase]
    obtain ⟨-, h⟩ | ⟨-, h⟩ := State.dfDrop_cases { s with dfCnt := s.dfCnt + 1 } <;> rw [h]
    · exact .ends rfl ⟨rfl, .inl hresult⟩
    · exact .asks rfl (.drain hphase hresult)

/-- An empty Channel ends the attempt (R147). -/
theorem PastMarker.empty (hs : PastMarker s n) : ∃ t, exec .dfEmpty s = .next t ∧ EndedPastMarker t n := by
  have hrunning : s.dfPhase = .drain ∧ s.dfResult ∈ lateFailures ∨ s.dfPhase ≠ .idle ∧ s.dfPhase ≠ .drain := by
    cases hs with
    | data hphase | chk hphase | fin hphase => simp [hphase]
    | drain hphase hresult => exact .inl ⟨hphase, hresult⟩
  obtain ⟨hdrain, hresult⟩ | ⟨hidle, hdrain⟩ := hrunning
  · exact ⟨_, exec_dfEmpty_of_drain hdrain, rfl, .inl hresult⟩
  · exact ⟨_, exec_dfEmpty_of_underrun hidle hdrain, rfl, .inl (by simp)⟩

/-- The loop brings such an attempt to its end, whatever bytes follow. -/
theorem PastMarker.feedChannel_ends (hw : s.wantsByte = true) (hs : PastMarker s n) (ch : List Byte) :
    ∃ t m, feedChannel ch n s = (.next t, m) ∧ EndedPastMarker t m := by
  induction ch generalizing s n with
  | nil =>
    obtain ⟨t, hexec, ht⟩ := hs.empty
    exact ⟨t, n, by simp [feedChannel, hw, hexec], ht⟩
  | cons b ch ih =>
    have hstays := hs.byte b
    rw [feedChannel, if_pos hw]
    cases hexec : exec (.dfByte b) s with
    | fault r | refused r =>
      rw [hexec] at hstays
      cases hstays
    | next u =>
      rw [hexec] at hstays
      cases hstays with
      | asks hw h => exact ih hw h
      | ends hw h => exact ⟨u, n + 1, feedChannel_of_answered hw ch (n + 1), h⟩

end

/-! ## One damaged byte -/

/-- A byte whose stuffing is one byte long stands for itself, and is not the marker. -/
theorem Spells.eq_singleton {bs : List Byte} {v : Byte} (h : Spells bs v) (hlen : bs.length ≤ 1) :
    bs = [v] ∧ v ≠ 0x7D#8 := by
  cases h with
  | plain hv => exact ⟨rfl, hv⟩
  | escaped => simp at hlen

/-- A sequence that stuffing does not lengthen needs no escape. -/
theorem stuff_eq_self_of_length_le {p : List Byte} (h : (stuff p).length ≤ p.length) :
    stuff p = p ∧ ∀ v ∈ p, v ≠ 0x7D#8 := by
  induction p with
  | nil => simp [stuff]
  | cons v p ih =>
    have hle := length_le_length_stuff p
    have hpos := (spells_stuffByte v).length_pos
    simp only [stuff, List.length_append, List.length_cons] at h
    obtain ⟨hstuff, hp⟩ := ih (by omega)
    obtain ⟨hbyte, hv⟩ := (spells_stuffByte v).eq_singleton (by omega)
    exact ⟨by rw [stuff, hstuff, hbyte]; rfl, List.forall_mem_cons.2 ⟨hv, hp⟩⟩

/-- Changing one payload byte changes the checksum: the bytes are summed modulo 256. -/
theorem frameChecksum_set_ne {info p : List Byte} {k : Nat} {v : Byte} (hk : k < p.length) (hv : v ≠ p.getD k 0) :
    frameChecksum info p ≠ frameChecksum info (p.set k v) := by
  intro h
  have hsplit : p = p.take k ++ p[k] :: p.drop (k + 1) := by simp
  have hsum : (sum8 (info ++ p)).toNat = (sum8 (info ++ p.set k v)).toNat := by
    rw [frameChecksum, frameChecksum, chk8, chk8, BitVec.not_inj] at h
    rw [h]
  rw [sum8_toNat, sum8_toNat, List.set_eq_take_append_cons_drop, if_pos hk] at hsum
  conv at hsum => lhs; rw [hsplit]
  have hold := p[k].isLt
  have hnew := v.isLt
  simp only [List.map_append, List.map_cons, List.sum_append, List.sum_cons] at hsum
  refine hv (BitVec.eq_of_toNat_eq ?_)
  rw [List.getD_eq_getElem _ _ hk]
  omega

/-- Bytes other than the marker stand for themselves. -/
theorem attempt_plainPayload {s : State} {a1 a2 a4 : Byte} {ch vs : List Byte}
    (hphase : s.dfPhase = .idle) (hplain : ∀ w ∈ vs, w ≠ 0x7D#8) (hvs : vs.length ≤ 40)
    (hlen : 42 ≤ (vs ++ ch).length) :
    ∃ t, Collected [a1, a2, 0x00#8, a4] s vs (5 + vs.length) t ∧
      attempt ([0x7E#8, a1, a2, 0x00#8, a4] ++ (vs ++ ch)) s = feedChannel ch (5 + vs.length) t := by
  have h := attempt_payload (a1 := a1) (a2 := a2) (a4 := a4) (ch := ch) (vs := vs) (code := fun w => [w]) hphase
    (fun w hw => .plain (hplain w hw)) hvs
  rw [List.flatMap_singleton'] at h
  exact h hlen

/-- The marker in the place of a payload byte puts the attempt behind. -/
theorem Collected.marker {info vs : List Byte} {s₀ s : State} (hs : Collected info s₀ vs (5 + vs.length) s)
    (hlt : vs.length < 40) :
    ∃ t, Takes [0x7D#8] s t ∧ t.wantsByte = true ∧ PastMarker t (5 + vs.length + 1) := by
  have hphase : s.dfPhase = .data := by rw [hs.phase, if_neg (Nat.ne_of_lt hlt)]
  have hidx : s.dfIdx.toNat = vs.length := hs.idx.trans (by omega)
  have hexec := (exec_dfByte_of_data (b := 0x7D#8) hphase).trans
    (State.dfDestuff_of_marker (s := { s with dfCnt := s.dfCnt + 1 }) hs.esc)
  refine ⟨_, .byte (State.wantsByte_of_resp hs.resp) hexec, rfl, .data hphase (hidx.trans_le (by omega)) ?_⟩
  simp only [State.answer_dfIdx, hidx]
  omega

/-- Settles O22: a value other than the marker gives a payload of the same length with another checksum; the marker
costs the attempt a byte, and from there the loop cannot end in DONE with the 47th. -/
theorem singleByteDamageNeverEndsInDoneAtTheSameLength :
    Obligations.SingleByteDamageNeverEndsInDoneAtTheSameLength := by
  unfold Obligations.SingleByteDamageNeverEndsInDoneAtTheSameLength
  intro s a1 a2 a4 c v p rest k hphase hp hk hstuff hv
  obtain ⟨hself, hplain⟩ := stuff_eq_self_of_length_le (p := p ++ [frameChecksum [a1, a2, 0x00#8, a4] p])
    (by simp [hstuff])
  obtain rfl : frameChecksum [a1, a2, 0x00#8, a4] p = c := by simpa [hself] using hstuff
  have hpayload : ∀ w ∈ p, w ≠ 0x7D#8 := fun w hw => hplain w (List.mem_append_left _ hw)
  by_cases hmarker : v = 0x7D#8
  · subst hmarker
    have htake : (p.take k).length = k := by simp; omega
    obtain ⟨u, hu, hattempt⟩ := attempt_plainPayload (a1 := a1) (a2 := a2) (a4 := a4) (vs := p.take k)
      (ch := [0x7D#8] ++ (p.drop (k + 1) ++ [frameChecksum [a1, a2, 0x00#8, a4] p, 0x7E#8] ++ rest)) hphase
      (fun w hw => hpayload w (List.mem_of_mem_take hw)) (by omega) (by simp; omega)
    obtain ⟨t, htakes, hw, ht⟩ := hu.marker (by omega)
    obtain ⟨t', n, hfeed, hend⟩ :=
      ht.feedChannel_ends hw (p.drop (k + 1) ++ [frameChecksum [a1, a2, 0x00#8, a4] p, 0x7E#8] ++ rest)
    refine ⟨t', n, ?_, hend.phase, fun h => absurd rfl h, fun _ => ?_⟩
    · have hdamaged : p.set k 0x7D#8 = p.take k ++ ([0x7D#8] ++ p.drop (k + 1)) := by
        rw [List.set_eq_take_append_cons_drop, if_pos (by omega), List.singleton_append]
      simp only [hdamaged, List.append_assoc] at hattempt hfeed ⊢
      exact hattempt.trans ((htakes _ _).trans hfeed)
    · exact hend.result.imp_right fun ⟨hok, hn⟩ => ⟨hok, by omega⟩
  · have hset : (p.set k v).length = 40 := by simpa using hp
    obtain ⟨u, hu, hattempt⟩ := attempt_plainPayload (a1 := a1) (a2 := a2) (a4 := a4) (vs := p.set k v)
      (ch := [frameChecksum [a1, a2, 0x00#8, a4] p, 0x7E#8] ++ rest) hphase
      (fun w hw => (List.mem_or_eq_of_mem_set hw).elim (hpayload w) fun h => h ▸ hmarker) hset.le (by simp; omega)
    rw [hset] at hu hattempt
    obtain ⟨t, htakes, hidle, hresp, hresult, hrd, hvalid⟩ := hu.wrongChecksumByte hset
      (hplain _ (by simp)) (frameChecksum_set_ne (by omega) hv) 0x7E#8
    refine ⟨t, 47, ?_, hidle, fun _ => ⟨rfl, hresp, hresult, hrd, hvalid⟩, fun h => absurd h hmarker⟩
    have hw : t.wantsByte = false := by simp [State.wantsByte, hresp]
    rw [← feedChannel_of_answered hw rest 47, List.append_assoc, List.append_assoc, hattempt]
    exact htakes rest 45

end Sys2Proof.Machine

/-! PROOFS. The commands of the health tracker: the words that run them, their two guards, and the age check
(44_health.md sections 2 to 4). -/

namespace Sys2Proof.Machine

/-! ## The words that run a command of format T -/

/-- Format T: no bit is required to be zero, so no word of the opcode is illegal. -/
theorem runsWithAnyOperand_of_formatT {op : Byte} {i : Word → Instr}
    (hdec : ∀ arg, decode (op ++ arg) = operand .T arg (i arg) := by simp [decode]) : RunsWithAnyOperand op i :=
  fun _ _ arg hport =>
    step_of_decode_eq_ok hport ((hdec arg).trans (operand_eq_ok.2 ⟨zeroBitsClear_T arg, rfl⟩))

/-! ## The age check and the two counters -/

/-- A time is 0 old at itself. -/
@[simp] theorem elapsedNat_self (now : Word) : elapsedNat now now = 0 := by
  simp [elapsedNat]

section
variable {s : State} {now : Word}

theorem State.ageCheck_of_lt (h : elapsedNat now s.htLastGood < s.htResetThreshold.toNat) :
    s.ageCheck now = .next (s.answer .ok 0#32 []) := by
  obtain ⟨hle, -⟩ | ⟨-, heq⟩ := s.ageCheck_cases now
  · exact absurd hle (Nat.not_le.2 h)
  · exact heq

theorem State.ageCheck_of_le (h : s.htResetThreshold.toNat ≤ elapsedNat now s.htLastGood) :
    s.ageCheck now = .next ((s.startRecovery now).answer .ok 1#32 [.trigger, .pwrOff]) := by
  obtain ⟨-, heq⟩ | ⟨hlt, -⟩ := s.ageCheck_cases now
  · exact heq
  · exact absurd h (Nat.not_le.2 hlt)

/-- After a success the age is 0, which is below every threshold but 0 (R173). -/
theorem State.countGood_ageCheck_of_ne (h : s.htResetThreshold ≠ 0#32) :
    (s.countGood now).ageCheck now = .next ((s.countGood now).answer .ok 0#32 []) := by
  refine State.ageCheck_of_lt ?_
  have hpos : 0 < s.htResetThreshold.toNat := by bv_omega
  simpa using hpos

theorem State.countGood_ageCheck_of_eq (h : s.htResetThreshold = 0#32) :
    (s.countGood now).ageCheck now =
      .next (((s.countGood now).startRecovery now).answer .ok 1#32 [.trigger, .pwrOff]) :=
  State.ageCheck_of_le (by simp [h])

end

/-- The update of a failure, its test on the new streak as a test on numbers (R174). -/
theorem State.countBad_eq (s : State) :
    s.countBad = { s with htBadStreak := BitVec.ofNat 16 (min (s.htBadStreak.toNat + 1) 0xFFFF),
                          htQualityFlag := if 5 ≤ min (s.htBadStreak.toNat + 1) 0xFFFF then false
                                           else s.htQualityFlag } := by
  have hflag : qualityAfterBad (satInc s.htBadStreak) s.htQualityFlag =
      if 5 ≤ min (s.htBadStreak.toNat + 1) 0xFFFF then false else s.htQualityFlag := by
    rw [qualityAfterBad, satInc_toNat]
    rfl
  rw [← hflag]
  rfl

/-! ## The guards -/

section
variable {s : State} {now : Word}

/-- The busy guard of `HT_INIT` (R180), which has no other. -/
theorem exec_htInit_of_busy (h : s.rcState ≠ .idle) : exec (.htInit now) s = .next (s.answer .busy 0#32 []) := by
  simp [exec, execHtInit, State.rcBusy, State.refuseBusy, h]

theorem exec_htInit_of_idle (h : s.rcState = .idle) :
    exec (.htInit now) s =
      .next ({ s with htValid := true, htGoodCount := 1#32, htBadStreak := 0#16, htLastGood := now,
                      htQualityFlag := true }.answer .ok 0#32 []) := by
  simp [exec, execHtInit, State.rcBusy, h]

/-- The two guards of a report, the validity guard first (R178, R180): what the report `o` is, read off its cases. -/
theorem report_of_guards {o fault busy counted : Out}
    (h : (s.htValid = false ∧ o = fault) ∨ (s.htValid = true ∧ s.rcState ≠ .idle ∧ o = busy) ∨
      (s.htValid = true ∧ s.rcState = .idle ∧ o = counted)) :
    (s.htValid = false → o = fault) ∧ (s.htValid = true → s.rcState ≠ .idle → o = busy) ∧
      (s.htValid = true → s.rcState = .idle → o = counted) := by
  refine ⟨fun hv => ?_, fun hv hr => ?_, fun hv hr => ?_⟩
  · simpa [hv] using h
  · simpa [hv, hr] using h
  · simpa [hv, hr] using h

/-- The validity guard of the queries, which have no other (R178). -/
theorem exec_htQgood_of_uninit (h : s.htValid = false) : exec .htQgood s = .next (s.raiseFault .htUninit) := by
  simp [exec, execHtQgood, h]

theorem exec_htQflag_of_uninit (h : s.htValid = false) : exec .htQflag s = .next (s.raiseFault .htUninit) := by
  simp [exec, execHtQflag, h]

theorem exec_htQgood_of_valid (h : s.htValid = true) : exec .htQgood s = .next (s.answer .ok s.htGoodCount []) := by
  simp [exec, execHtQgood, h]

theorem exec_htQflag_of_valid (h : s.htValid = true) :
    exec .htQflag s = .next (s.answer .ok (if s.htQualityFlag = true then 1#32 else 0#32) []) := by
  simp [exec, execHtQflag, h, bit_eq_ite]

end

theorem exec_htSetthr (s : State) (thr : Word) :
    exec (.htSetthr thr) s = .next ({ s with htResetThreshold := thr }.answer .ok 0#32 []) := rfl

/-! ## The statements -/

/-- Settles O26: the busy guard, then the five registers. -/
theorem htInitCreatesTheHealthState : Obligations.HtInitCreatesTheHealthState := by
  unfold Obligations.HtInitCreatesTheHealthState
  exact ⟨runsWithAnyOperand_of_formatT, fun s now => ⟨exec_htInit_of_busy, exec_htInit_of_idle⟩⟩

/-- Settles O27: the guards, then the age check at age 0. -/
theorem htGoodCountsASuccess : Obligations.HtGoodCountsASuccess := by
  unfold Obligations.HtGoodCountsASuccess
  refine ⟨runsWithAnyOperand_of_formatT, fun s now => ?_⟩
  obtain ⟨huninit, hbusy, hcounted⟩ := report_of_guards (execHtGood_cases now s)
  exact ⟨huninit, hbusy, fun hv hidle hthr => (hcounted hv hidle).trans (State.countGood_ageCheck_of_ne hthr),
    fun hv hidle hthr => (hcounted hv hidle).trans (State.countGood_ageCheck_of_eq hthr)⟩

/-- Settles O28: the guards, then the age check, which reads two registers that the count leaves alone. -/
theorem htBadCountsAFailureAndChecksTheAge : Obligations.HtBadCountsAFailureAndChecksTheAge := by
  unfold Obligations.HtBadCountsAFailureAndChecksTheAge
  refine ⟨runsWithAnyOperand_of_formatT, fun s now => ?_⟩
  obtain ⟨huninit, hbusy, hcounted⟩ := report_of_guards (execHtBad_cases now s)
  rw [State.countBad_eq] at hcounted
  exact ⟨huninit, hbusy, fun hv hidle hage => (hcounted hv hidle).trans (State.ageCheck_of_lt hage),
    fun hv hidle hage => (hcounted hv hidle).trans (State.ageCheck_of_le hage)⟩

/-- Settles O29: a command without a guard. -/
theorem htSetthrWritesOnlyTheThreshold : Obligations.HtSetthrWritesOnlyTheThreshold := by
  unfold Obligations.HtSetthrWritesOnlyTheThreshold
  exact ⟨runsWithAnyOperand_of_formatT, exec_htSetthr⟩

/-- Settles O30: two words of format N, and each query before and after `HT_INIT`. -/
theorem healthQueriesAnswerTheirRegister : Obligations.HealthQueriesAnswerTheirRegister := by
  unfold Obligations.HealthQueriesAnswerTheirRegister
  exact ⟨runsAs_of_formatN, runsAs_of_formatN, fun s =>
    ⟨fun hv => ⟨exec_htQgood_of_uninit hv, exec_htQflag_of_uninit hv⟩,
      fun hv => ⟨exec_htQgood_of_valid hv, exec_htQflag_of_valid hv⟩⟩⟩

end Sys2Proof.Machine

/-! PROOFS. The recovery sequencer: what a tick does in each state, and what a step of any command does to `RC.state`
(45_recovery.md). -/

namespace Sys2Proof.Machine

/-! ## A tick, state by state -/

/-- The open part of `T_OFF_MS` is too small to wrap (R194). -/
theorem params_tOff_toNat : Config.params.tOff.toNat = 2000 + Config.tOffExcess.val := by
  have hlt := Config.tOffExcess.isLt
  exact Nat.mod_eq_of_lt (by omega)

section
variable {p : Config.Params} {s : State} {now : Word}

theorem State.rcTick_of_idle (h : s.rcState = .idle) : s.rcTick p now = .next (s.answer .ok 0#32 []) := by
  simp [State.rcTick, State.rcAdvance, h, RcState.val]

theorem State.rcTick_of_offWait (h : s.rcState = .offWait) :
    s.rcTick p now = if p.tOff.toNat ≤ elapsedNat now s.rcT0
      then .next ((s.enterWait .onWait now).answer .ok 2#32 [.pwrOn])
      else .next (s.answer .ok 1#32 []) := by
  simp only [State.rcTick, State.rcAdvance, h, BitVec.le_def, elapsed_toNat]
  split
  · rfl
  · simp [h, RcState.val]

theorem State.rcTick_of_onWait (h : s.rcState = .onWait) :
    s.rcTick p now = if p.tOn.toNat ≤ elapsedNat now s.rcT0
      then if p.hasClean = true
        then .next ((s.enterWait .cleanWait now).answer .ok 3#32 [.fanClean])
        else .next ((s.completeRecovery now).answer .ok 0#32 [])
      else .next (s.answer .ok 2#32 []) := by
  simp only [State.rcTick, State.rcAdvance, h, BitVec.le_def, elapsed_toNat]
  split
  · split <;> rfl
  · simp [h, RcState.val]

theorem State.rcTick_of_cleanWait (h : s.rcState = .cleanWait) :
    s.rcTick p now = if p.tClean.toNat ≤ elapsedNat now s.rcT0
      then .next ((s.completeRecovery now).answer .ok 0#32 [])
      else .next (s.answer .ok 3#32 []) := by
  simp only [State.rcTick, State.rcAdvance, h, BitVec.le_def, elapsed_toNat]
  split
  · rfl
  · simp [h, RcState.val]

end

/-- Settles O33: the word of format T, the range of `T_OFF_MS`, and the tick below and past the delay of each state. -/
theorem rcTickMakesAtMostOneTransition : Obligations.RcTickMakesAtMostOneTransition := by
  unfold Obligations.RcTickMakesAtMostOneTransition
  refine ⟨runsWithAnyOperand_of_formatT, ?_, ?_, fun s now => ⟨rfl, _, rfl⟩, fun p s now =>
    ⟨State.rcTick_of_idle, fun h hlt => ?_, fun h hle => ?_, fun h hlt => ?_, fun h hle hclean => ?_,
      fun h hle hclean => ?_, fun h hlt => ?_, fun h hle => ?_⟩⟩
  · rw [params_tOff_toNat]; omega
  · rw [params_tOff_toNat]; omega
  · exact (State.rcTick_of_offWait h).trans (if_neg (Nat.not_le.2 hlt))
  · exact (State.rcTick_of_offWait h).trans (if_pos hle)
  · exact (State.rcTick_of_onWait h).trans (if_neg (Nat.not_le.2 hlt))
  · exact (State.rcTick_of_onWait h).trans ((if_pos hle).trans (if_pos hclean))
  · exact (State.rcTick_of_onWait h).trans ((if_pos hle).trans (if_neg (by simp [hclean])))
  · exact (State.rcTick_of_cleanWait h).trans (if_neg (Nat.not_le.2 hlt))
  · exact (State.rcTick_of_cleanWait h).trans (if_pos hle)

/-! ## Outcomes with a given `RC.state` -/

/-- An outcome in which `RC.state` is `r`, where it goes on. -/
def EndsInRcState (r : RcState) (o : Out) : Prop := ∀ t, o = .next t → t.rcState = r

section
variable {r : RcState} {s : State}

@[simp] theorem endsInRcState_next : EndsInRcState r (.next s) ↔ s.rcState = r := by
  simp [EndsInRcState]

@[simp] theorem endsInRcState_fault (c : Fault) : EndsInRcState r (.fault c) := by
  simp [EndsInRcState]

@[simp] theorem State.afterFailure_rcState (d : DfResult) : (s.afterFailure d).rcState = s.rcState := rfl

end

/-! ## The deframer leaves `RC.state` alone -/

section
variable (b v : Byte) (s : State)

theorem dfInfoByte_keepsRcState : EndsInRcState s.rcState (s.dfInfoByte b) := by
  obtain ⟨_, h⟩ | ⟨_, _, h⟩ | ⟨_, _, h⟩ | ⟨_, h⟩ := s.dfInfoByte_cases b <;> simp [h]

theorem dfPayload_keepsRcState : EndsInRcState s.rcState (s.dfPayload v) := by
  obtain ⟨_, h⟩ | ⟨_, h⟩ | ⟨_, h⟩ := s.dfPayload_cases v <;> simp [h]

theorem dfChecksum_keepsRcState : EndsInRcState s.rcState (s.dfChecksum v) := by
  obtain ⟨_, h⟩ | ⟨_, h⟩ := s.dfChecksum_cases v <;> simp [h]

/-- De-stuffing does not write `RC.state` when `deliver` does not. -/
theorem dfDestuff_keepsRcState {deliver : Byte → State → Out}
    (hdel : ∀ v s, EndsInRcState s.rcState (deliver v s)) : EndsInRcState s.rcState (s.dfDestuff deliver b) := by
  obtain ⟨_, _, h⟩ | ⟨_, _, h⟩ | ⟨v, _, h⟩ := s.dfDestuff_cases deliver b <;> rw [h]
  · simp [State.dfFail_eq]
  · simp
  · exact hdel v { s with dfEsc := false }

theorem dfEnd_keepsRcState : EndsInRcState s.rcState (s.dfEnd b) := by
  obtain ⟨_, h⟩ | ⟨_, h⟩ := s.dfEnd_cases b <;> simp [h]

theorem dfDrop_keepsRcState : EndsInRcState s.rcState s.dfDrop := by
  obtain ⟨_, h⟩ | ⟨_, h⟩ := s.dfDrop_cases <;> simp [h]

/-- Each phase's rule runs with the count raised (R135). -/
theorem exec_dfByte_keepsRcState : EndsInRcState s.rcState (exec (.dfByte b) s) := by
  cases h : s.dfPhase with
  | idle => simp [exec, execDfByte, h]
  | info => exact exec_dfByte_of_info h ▸ dfInfoByte_keepsRcState b { s with dfCnt := s.dfCnt + 1 }
  | data => exact exec_dfByte_of_data h ▸
    dfDestuff_keepsRcState b { s with dfCnt := s.dfCnt + 1 } dfPayload_keepsRcState
  | chk => exact exec_dfByte_of_chk h ▸
    dfDestuff_keepsRcState b { s with dfCnt := s.dfCnt + 1 } dfChecksum_keepsRcState
  | fin => exact exec_dfByte_of_fin h ▸ dfEnd_keepsRcState b { s with dfCnt := s.dfCnt + 1 }
  | drain => exact exec_dfByte_of_drain h ▸ dfDrop_keepsRcState { s with dfCnt := s.dfCnt + 1 }

theorem execDfEmpty_keepsRcState : EndsInRcState s.rcState (execDfEmpty s) := by
  unfold execDfEmpty
  cases s.dfPhase <;> simp

theorem execDfRead_keepsRcState (k : BitVec 4) : EndsInRcState s.rcState (execDfRead k s) := by
  unfold execDfRead
  split
  · split <;> simp
  · simp

theorem execDfStart_keepsRcState (avail : BitVec 16) (peek : Byte) :
    EndsInRcState s.rcState (execDfStart avail peek s) := by
  unfold execDfStart
  split
  · simp
  dsimp only
  split
  · simp
  split
  · simp
  split <;> simp

end

/-! ## So do the health commands without an age check -/

section
variable (s : State)

theorem execHtInit_keepsRcState (now : Word) : EndsInRcState s.rcState (execHtInit now s) := by
  unfold execHtInit State.refuseBusy
  split <;> simp

theorem execHtQgood_keepsRcState : EndsInRcState s.rcState (execHtQgood s) := by
  unfold execHtQgood
  split <;> simp

theorem execHtQflag_keepsRcState : EndsInRcState s.rcState (execHtQflag s) := by
  unfold execHtQflag
  split <;> simp

end

/-! ## What a step of any command does to the sequence -/

/-- The three ways in which a command that goes on from `s` to `t` can treat the recovery sequence (R191). -/
inductive RecoveryEffect (i : Instr) (s t : State) : Prop where
  | kept (hstate : t.rcState = s.rcState) (hsilent : .trigger ∉ t.events)
  | ticked (now : Word) (hi : i = .rcTick now) (hbusy : s.rcState ≠ .idle) (hsilent : .trigger ∉ t.events)
  /-- The age check fired, in the state `u` that the count of the report left. -/
  | triggered (now : Word) (u : State)
      (hi : (i = .htGood now ∧ s.htResetThreshold = 0#32) ∨
        (i = .htBad now ∧ s.htResetThreshold.toNat ≤ elapsedNat now s.htLastGood))
      (hvalid : s.htValid = true) (hidle : s.rcState = .idle)
      (ht : t = (u.startRecovery now).answer .ok 1#32 [.trigger, .pwrOff])

section
variable {i : Instr} {s t : State} {now : Word}

/-- A command whose event lists hold no TRIGGER (R87) emits none. -/
theorem trigger_notMem_events (h : exec i s = .next t)
    (hlists : ∀ evs ∈ eventLists i, .trigger ∉ evs := by simp [eventLists]) : .trigger ∉ t.events :=
  hlists _ (exec_emitsOneOf_eventLists i s t h)

theorem RecoveryEffect.of_keepsRcState (h : exec i s = .next t) (hkeeps : EndsInRcState s.rcState (exec i s))
    (hlists : ∀ evs ∈ eventLists i, .trigger ∉ evs := by simp [eventLists]) : RecoveryEffect i s t :=
  .kept (hkeeps t h) (trigger_notMem_events h hlists)

theorem RecoveryEffect.raiseFault (c : FaultCode) : RecoveryEffect i s (s.raiseFault c) :=
  .kept rfl (by simp)

theorem RecoveryEffect.silentAnswer {u : State} {code : RespCode} {v : Word} (hu : u.rcState = s.rcState := by rfl) :
    RecoveryEffect i s (u.answer code v []) :=
  .kept hu (by simp)

/-- A success fires only with a threshold of 0, for its age is 0 (R173). -/
theorem execHtGood_recoveryEffect (h : execHtGood now s = .next t) : RecoveryEffect (.htGood now) s t := by
  obtain ⟨-, heq⟩ | ⟨-, -, heq⟩ | ⟨hvalid, hidle, heq⟩ := execHtGood_cases now s
  · cases heq.symm.trans h
    exact .raiseFault _
  · cases heq.symm.trans h
    exact .silentAnswer
  by_cases hthr : s.htResetThreshold = 0#32
  · cases (heq.trans (State.countGood_ageCheck_of_eq hthr)).symm.trans h
    exact .triggered now _ (.inl ⟨rfl, hthr⟩) hvalid hidle rfl
  · cases (heq.trans (State.countGood_ageCheck_of_ne hthr)).symm.trans h
    exact .silentAnswer

/-- A failure fires at the age that the registers hold before it (R174, R175). -/
theorem execHtBad_recoveryEffect (h : execHtBad now s = .next t) : RecoveryEffect (.htBad now) s t := by
  obtain ⟨-, heq⟩ | ⟨-, -, heq⟩ | ⟨hvalid, hidle, heq⟩ := execHtBad_cases now s
  · cases heq.symm.trans h
    exact .raiseFault _
  · cases heq.symm.trans h
    exact .silentAnswer
  obtain ⟨hage, hcheck⟩ | ⟨-, hcheck⟩ := s.countBad.ageCheck_cases now
  · cases (heq.trans hcheck).symm.trans h
    exact .triggered now _ (.inr ⟨rfl, hage⟩) hvalid hidle rfl
  · cases (heq.trans hcheck).symm.trans h
    exact .silentAnswer

/-- A tick in IDLE keeps IDLE (R193). -/
theorem rcTick_recoveryEffect (h : exec (.rcTick now) s = .next t) : RecoveryEffect (.rcTick now) s t := by
  by_cases hidle : s.rcState = .idle
  · exact .of_keepsRcState h (by simp [exec, execRcTick, State.rcTick_of_idle hidle])
  · exact .ticked now rfl hidle (trigger_notMem_events h)

/-- Every command that goes on has one of the three effects. -/
theorem exec_recoveryEffect (h : exec i s = .next t) : RecoveryEffect i s t := by
  cases i with
  | htGood now => exact execHtGood_recoveryEffect h
  | htBad now => exact execHtBad_recoveryEffect h
  | rcTick now => exact rcTick_recoveryEffect h
  | dfStart avail peek => exact .of_keepsRcState h (execDfStart_keepsRcState s avail peek)
  | dfByte b => exact .of_keepsRcState h (exec_dfByte_keepsRcState b s)
  | dfEmpty => exact .of_keepsRcState h (execDfEmpty_keepsRcState s)
  | dfRead k => exact .of_keepsRcState h (execDfRead_keepsRcState s k)
  | htInit now => exact .of_keepsRcState h (execHtInit_keepsRcState s now)
  | htQgood => exact .of_keepsRcState h (execHtQgood_keepsRcState s)
  | htQflag => exact .of_keepsRcState h (execHtQflag_keepsRcState s)
  | sysStatus | s8Init | s8Byte | s8Read | s8Check | c16Init | c16Byte | c16Read | c8Init | c8Byte | c8Read | c8Check
  | htSetthr => exact .of_keepsRcState h (endsInRcState_next.2 rfl)

end

/-- Settles O34: of the three effects only the fired age check leaves IDLE and emits TRIGGER, and only a tick moves a
running sequence. -/
theorem onlyTheAgeTriggerStartsARecovery : Obligations.OnlyTheAgeTriggerStartsARecovery := by
  unfold Obligations.OnlyTheAgeTriggerStartsARecovery
  intro i s t h
  cases exec_recoveryEffect h with
  | kept hstate hsilent =>
    exact ⟨fun hidle hleft => absurd (hstate.trans hidle) hleft, fun _ hmoved => absurd hstate hmoved,
      fun htrigger => absurd htrigger hsilent⟩
  | ticked now hi hbusy hsilent =>
    exact ⟨fun hidle => absurd hidle hbusy, fun _ _ => ⟨now, hi⟩, fun htrigger => absurd htrigger hsilent⟩
  | triggered now u hi hvalid hidle ht =>
    subst ht
    refine ⟨fun _ _ => ⟨now, hi.imp And.left And.left, hvalid, rfl, rfl, rfl, rfl, rfl, ?_, ?_⟩,
      fun hbusy => absurd hidle hbusy, fun _ => ⟨hidle, rfl⟩⟩
    · rintro rfl
      simpa using hi
    · rintro rfl
      simpa using hi

end Sys2Proof.Machine

/-! PROOFS. The status command: the status word field by field (46_system.md). -/

namespace Sys2Proof.Machine

/-! ## A value put into the status word at its lowest bit -/

/-- The value `v` put into a word with its lowest bit at `k`: one summand of R206's `status_word`. -/
def statusField {n : Nat} (k : Nat) (v : BitVec n) : Word := v.setWidth 32 <<< k

section
variable {n : Nat} {k i : Nat} (v : BitVec n)

theorem statusField_getLsbD (hi : i < 32) :
    (statusField k v).getLsbD i = (decide (k ≤ i) && v.getLsbD (i - k)) := by
  by_cases hk : k ≤ i
  · simp [statusField, hi, hk]
  · simp [statusField, hi, hk, Nat.lt_of_not_le hk]

/-- A field that fits is read back whole. -/
theorem extractLsb'_statusField_same (h : k + n ≤ 32) : (statusField k v).extractLsb' k n = v := by
  ext j hj
  rw [BitVec.getElem_extractLsb', statusField_getLsbD v (by omega)]
  simp [BitVec.getLsbD_eq_getElem hj]

/-- A field leaves the bits below and above it zero. -/
theorem extractLsb'_statusField_disjoint {k' n' : Nat} (hfit : k' + n' ≤ 32) (h : k' + n' ≤ k ∨ k + n ≤ k') :
    (statusField k v).extractLsb' k' n' = 0#n' := by
  ext j hj
  rw [BitVec.getElem_extractLsb', statusField_getLsbD v (by omega), BitVec.getElem_zero]
  obtain hbelow | habove := h
  · simp [show ¬ k ≤ k' + j by omega]
  · simp [BitVec.getLsbD_of_ge v (k' + j - k) (by omega)]

end

/-- A field of one bit is that bit. -/
theorem getLsbD_of_extractLsb'_eq_ofBool {w : Word} {k : Nat} {b : Bool}
    (h : w.extractLsb' k 1 = BitVec.ofBool b) : w.getLsbD k = b := by
  simpa using congrArg (BitVec.getLsbD · 0) h

/-! ## The numbers of the phases, the results and the recovery states -/

theorem Phase.val_toNat (p : Phase) :
    p.val.toNat =
      (match p with | .idle => 0 | .info => 1 | .data => 2 | .chk => 3 | .fin => 4 | .drain => 5) := by
  cases p <;> rfl

theorem DfResult.val_toNat (r : DfResult) :
    r.val.toNat =
      (match r with
       | .none => 0 | .ok => 1 | .notReady => 2 | .badStart => 3 | .devError => 4 | .badEscape => 5
       | .badChecksum => 6 | .badEnd => 7 | .underrun => 8) := by
  cases r <;> rfl

theorem RcState.val_toNat (r : RcState) :
    r.val.toNat = (match r with | .idle => 0 | .offWait => 1 | .onWait => 2 | .cleanWait => 3) := by
  cases r <;> rfl

/-! ## The status word -/

theorem State.statusWord_eq_fields (s : State) :
    s.statusWord =
      statusField 0 (BitVec.ofBool s.sysFault) ||| statusField 1 (BitVec.ofBool s.htValid) |||
      statusField 2 (BitVec.ofBool s.rdValid) ||| statusField 3 (BitVec.ofBool s.rcBusy) |||
      statusField 4 s.dfPhase.val ||| statusField 8 s.dfResult.val ||| statusField 12 s.rcState.val := by
  simp [State.statusWord, statusField, bit]

/-- The rows of R206, for the fields do not overlap. -/
theorem State.statusWord_extractLsb' (s : State) :
    s.statusWord.extractLsb' 0 1 = BitVec.ofBool s.sysFault ∧ s.statusWord.extractLsb' 1 1 = BitVec.ofBool s.htValid ∧
    s.statusWord.extractLsb' 2 1 = BitVec.ofBool s.rdValid ∧ s.statusWord.extractLsb' 3 1 = BitVec.ofBool s.rcBusy ∧
    s.statusWord.extractLsb' 4 3 = s.dfPhase.val ∧ s.statusWord.extractLsb' 7 1 = BitVec.ofBool false ∧
    s.statusWord.extractLsb' 8 4 = s.dfResult.val ∧ s.statusWord.extractLsb' 12 2 = s.rcState.val ∧
    s.statusWord.extractLsb' 14 18 = 0#18 := by
  simp [State.statusWord_eq_fields, BitVec.extractLsb'_or, extractLsb'_statusField_same,
    extractLsb'_statusField_disjoint]

/-! ## The command -/

theorem exec_sysStatus (s : State) : exec .sysStatus s = .next (s.answer .ok s.statusWord []) := rfl

/-- Settles O36: a word of format N, the command's equation, and the status word read row by row. -/
theorem sysStatusShowsTheStatusWord : Obligations.SysStatusShowsTheStatusWord := by
  unfold Obligations.SysStatusShowsTheStatusWord
  refine ⟨runsAs_of_formatN, fun s => ⟨s.statusWord, exec_sysStatus s, ?_⟩⟩
  obtain ⟨hfault, hvalid, hrdValid, hbusy, hphase, hzero, hresult, hrc, htop⟩ := s.statusWord_extractLsb'
  rw [hphase, hresult, hrc]
  exact ⟨getLsbD_of_extractLsb'_eq_ofBool hfault, getLsbD_of_extractLsb'_eq_ofBool hvalid,
    getLsbD_of_extractLsb'_eq_ofBool hrdValid, getLsbD_of_extractLsb'_eq_ofBool hbusy, s.dfPhase.val_toNat,
    getLsbD_of_extractLsb'_eq_ofBool hzero, s.dfResult.val_toNat, s.rcState.val_toNat, htop⟩

end Sys2Proof.Machine

/-! PROOFS. The kinds of outcome of a command (60_exceptions.md): carried out, refused with BUSY, faulted with its
cause, or the model's stop outside the legal states; and the table's rows against a word that does not decode. -/

namespace Sys2Proof

open Sys2Proof.Machine

/-! ## The row that an illegal word does not select -/

/-- In every row of the table the opcode's bits are fixed and the operand's fixed bits are "zero" bits (R81, R91). -/
theorem opOf_mask_and_argOf_pattern : ∀ r ∈ opcodeTable, opOf r.mask = 0xFF#8 ∧ argOf r.pattern = 0#32 := by decide

/-- A word selects a row by the row's opcode and by the bits of its operand that the row fixes. -/
theorem TableRow.selects_iff {r : TableRow} (hr : r ∈ opcodeTable) (w : CommandWord) :
    r.selects w = true ↔ opOf w = opOf r.pattern ∧ argOf w &&& argOf r.mask = 0#32 := by
  obtain ⟨hmask, hpattern⟩ := opOf_mask_and_argOf_pattern r hr
  have hmasked : w &&& r.mask = opOf w ++ (argOf w &&& argOf r.mask) := by
    rw [← Laws.append_masked, ← hmask, opOf_append_argOf, opOf_append_argOf]
  rw [TableRow.selects, beq_iff_eq, hmasked]
  constructor
  · intro h
    exact ⟨by simpa using congrArg opOf h, by simpa [hpattern] using congrArg argOf h⟩
  · rintro ⟨hop, harg⟩
    rw [hop, harg, ← hpattern, opOf_append_argOf]

/-- A word whose operand the decoder tests against the format of its opcode's rows selects no row when the test
fails. -/
theorem selects_eq_false_of_operand_eq_error {w : CommandWord} {op : Nat} {f : Format} {i : Instr} {c : FaultCode}
    (h : operand f (argOf w) i = .error c) (hop : (opOf w).toNat = op)
    (hmask : ∀ r ∈ opcodeTable, (opOf r.pattern).toNat = op → argOf r.mask = f.zeroMask := by decide) :
    ∀ r ∈ opcodeTable, r.selects w = false := by
  intro r hr
  rw [Bool.eq_false_iff]
  intro hsel
  obtain ⟨hrow, hzero⟩ := (TableRow.selects_iff hr w).1 hsel
  have hclear : f.zeroBitsClear (argOf w) = true := by
    rw [Format.zeroBitsClear, ← hmask r hr (hrow ▸ hop), hzero, beq_self_eq_true]
  rw [operand_eq_ok.2 ⟨hclear, rfl⟩] at h
  cases h

/-- A word that decodes to no command selects no row, unless it is `DF_READ` with an index above 9 (R85, R91). -/
theorem selects_eq_false_or_nine_lt_index {w : CommandWord} {c : FaultCode} (h : decode w = .error c) :
    (∀ r ∈ opcodeTable, r.selects w = false) ∨ opOf w = 0x43#8 ∧ 9 < (argIndex (argOf w)).toNat := by
  by_cases hrow : (opOf w).toNat ∈ rowOpcodes
  · rw [rowOpcodes_eq] at hrow
    unfold decode at h
    dsimp only at h
    split at h
    case h_16 hop =>
      unfold indexOperand at h
      split at h
      · exact .inl (selects_eq_false_of_operand_eq_error h hop)
      · next hindex => exact .inr ⟨BitVec.eq_of_toNat_eq hop, Nat.lt_of_not_le hindex⟩
    case h_24 => simp_all -- the default arm excludes the opcodes of the rows one by one
    all_goals next hop => exact .inl (selects_eq_false_of_operand_eq_error h hop)
  · refine .inl fun r hr => ?_
    rw [Bool.eq_false_iff]
    intro hsel
    obtain ⟨hop, -⟩ := (TableRow.selects_iff hr w).1 hsel
    exact hrow (opOf_mem_rowOpcodes.2 ⟨r, hr, hop.symm⟩)

/-- The two faults of a word, each with its condition on the table (R85). -/
theorem decode_eq_error_cases {w : CommandWord} {c : FaultCode} (h : decode w = .error c) :
    (c = .illOpcode ∧ ∀ r ∈ opcodeTable, opOf r.pattern ≠ opOf w) ∨
    (c = .illOperand ∧ (∃ r ∈ opcodeTable, opOf r.pattern = opOf w) ∧
      ((∀ r ∈ opcodeTable, r.selects w = false) ∨ opOf w = 0x43#8 ∧ 9 < (argIndex (argOf w)).toNat)) := by
  by_cases hrow : (opOf w).toNat ∈ rowOpcodes
  · exact .inr ⟨eq_illOperand_of_decode_eq_error hrow h, opOf_mem_rowOpcodes.1 hrow,
      selects_eq_false_or_nine_lt_index h⟩
  · rw [decode_of_opOf_notMem hrow] at h
    exact .inl ⟨(Except.error.inj h).symm, fun r hr heq => hrow (opOf_mem_rowOpcodes.2 ⟨r, hr, heq⟩)⟩

/-- A word spells `DF_READ` with an index of at most 9 only (R81). -/
theorem index_le_nine_of_decode_eq_ok {w : CommandWord} {k : BitVec 4} (h : decode w = .ok (.dfRead k)) :
    k.toNat ≤ 9 := by
  refine Nat.le_of_not_lt fun hk => ?_
  have hw : w = 0x43#8 ++ indexArg k := (encode_of_decode_eq_ok h).symm
  exact decode_ne_ok_of_nine_lt_index (by simp [hw]) (by simpa [hw] using hk) _ h

end Sys2Proof

namespace Sys2Proof.Machine

/-! ## The kinds of outcome -/

/-- An outcome that answers with a code other than BUSY and FAULT and leaves `port` on the command port: carried out,
or a failed attempt (R211). -/
def CarriedOut (port : List CommandWord) (o : Out) : Prop :=
  ∃ t r, o = .next t ∧ t.resp = some r ∧ r.code ≠ .busy ∧ r.code ≠ .fault ∧ t.cmdIn = port

/-- An outcome that is carried out, except where `past` holds of the index: there the model may stop. -/
def CarriedOutUnless (past : Prop) (port : List CommandWord) (o : Out) : Prop :=
  CarriedOut port o ∨ past ∧ o = .fault .noSuchCell

/-- The three commands that a running recovery refuses (R180, R225). -/
def Refuses (i : Instr) (s : State) : Prop :=
  s.rcState ≠ .idle ∧ ((∃ n, i = .htInit n) ∨ s.htValid = true ∧ ((∃ n, i = .htGood n) ∨ ∃ n, i = .htBad n))

/-- What makes a command raise each fault (R213). -/
def FaultCause (i : Instr) (s : State) : FaultCode → Prop
  | .illOpcode => False
  | .illOperand => ∃ k, i = .dfRead k ∧ 9 < k.toNat
  | .dfSequence =>
    s.dfPhase ≠ .idle ∧ (∃ a p, i = .dfStart a p) ∨ s.dfPhase = .idle ∧ (i = .dfEmpty ∨ ∃ b, i = .dfByte b)
  | .htUninit =>
    s.htValid = false ∧ ((∃ n, i = .htGood n) ∨ (∃ n, i = .htBad n) ∨ i = .htQgood ∨ i = .htQflag)
  | .noReading => s.rdValid = false ∧ ∃ k, i = .dfRead k ∧ k.toNat ≤ 9

/-- `DF.idx` points past the info registers in phase INFO, or past the frame buffer in phase DATA; U15 excludes both. -/
def State.IdxPastTheCells (s : State) : Prop :=
  s.dfPhase = .info ∧ 5 ≤ s.dfIdx.toNat ∨ s.dfPhase = .data ∧ 40 ≤ s.dfIdx.toNat

/-- The outcomes a command can have in any state. -/
inductive Answers (i : Instr) (s : State) (o : Out) : Prop where
  | carriedOut (h : CarriedOut s.cmdIn o)
  | refused (hrefuses : Refuses i s) (h : o = .next s.afterBusy)
  | faulted (c : FaultCode) (hcause : FaultCause i s c) (h : o = .next (s.raiseFault c))
  | stopped (hpast : s.IdxPastTheCells) (h : o = .fault .noSuchCell)

section
variable {port : List CommandWord} {s : State}

@[simp] theorem carriedOut_answer {code : RespCode} {v : Word} {evs : List Event} :
    CarriedOut port (.next (s.answer code v evs)) ↔ code ≠ .busy ∧ code ≠ .fault ∧ s.cmdIn = port := by
  simp [CarriedOut]

/-- A failed attempt is answered FAIL, or PENDING while bytes remain to be drained (R145). -/
@[simp] theorem carriedOut_afterFailure {r : DfResult} :
    CarriedOut port (.next (s.afterFailure r)) ↔ s.cmdIn = port := by
  constructor
  · rintro ⟨_, _, ⟨⟩, -, -, -, hport⟩
    exact hport
  · intro hport
    refine ⟨_, _, rfl, rfl, ?_, ?_, hport⟩
    all_goals split <;> simp

theorem CarriedOut.code_ne {code : RespCode} {v : Word} (h : CarriedOut port (.next s))
    (hresp : s.resp = some ⟨code, v⟩) : code ≠ .busy ∧ code ≠ .fault := by
  obtain ⟨_, r, ⟨⟩, hr, hbusy, hfault, -⟩ := h
  obtain rfl : r = ⟨code, v⟩ := by simpa [hr] using hresp
  exact ⟨hbusy, hfault⟩

end

/-! ## The deframer -/

section
variable (b v : Byte) (s : State)

theorem dfInfoByte_carriedOutUnless : CarriedOutUnless (5 ≤ s.dfIdx.toNat) s.cmdIn (s.dfInfoByte b) := by
  obtain ⟨_, h⟩ | ⟨_, _, h⟩ | ⟨_, _, h⟩ | ⟨hpast, h⟩ := s.dfInfoByte_cases b
  · exact .inl (by simp [h])
  · exact .inl (by simp [h])
  · exact .inl (by simp [h])
  · exact .inr ⟨hpast, h⟩

theorem dfPayload_carriedOutUnless : CarriedOutUnless (40 ≤ s.dfIdx.toNat) s.cmdIn (s.dfPayload v) := by
  obtain ⟨_, h⟩ | ⟨_, h⟩ | ⟨hpast, h⟩ := s.dfPayload_cases v
  · exact .inl (by simp [h])
  · exact .inl (by simp [h])
  · exact .inr ⟨hpast, h⟩

theorem dfChecksum_carriedOut : CarriedOut s.cmdIn (s.dfChecksum v) := by
  obtain ⟨_, h⟩ | ⟨_, h⟩ := s.dfChecksum_cases v <;> simp [h]

/-- De-stuffing stops only where `deliver` does. -/
theorem dfDestuff_carriedOutUnless {past : Prop} {deliver : Byte → State → Out}
    (hdel : ∀ v, CarriedOutUnless past s.cmdIn (deliver v { s with dfEsc := false })) :
    CarriedOutUnless past s.cmdIn (s.dfDestuff deliver b) := by
  obtain ⟨_, _, h⟩ | ⟨_, _, h⟩ | ⟨v, _, h⟩ := s.dfDestuff_cases deliver b
  · exact .inl (by simp [h, State.dfFail_eq])
  · exact .inl (by simp [h])
  · exact h ▸ hdel v

theorem dfEnd_carriedOut : CarriedOut s.cmdIn (s.dfEnd b) := by
  obtain ⟨_, h⟩ | ⟨_, h⟩ := s.dfEnd_cases b <;> simp [h]

theorem dfDrop_carriedOut : CarriedOut s.cmdIn s.dfDrop := by
  obtain ⟨_, h⟩ | ⟨_, h⟩ := s.dfDrop_cases <;> simp [h]

end

section
variable {i : Instr} {s : State} {o : Out}

theorem Answers.of_carriedOutUnless {past : Prop} (h : CarriedOutUnless past s.cmdIn o)
    (hpast : past → s.IdxPastTheCells) : Answers i s o := by
  obtain hdone | ⟨hp, hstop⟩ := h
  · exact .carriedOut hdone
  · exact .stopped (hpast hp) hstop

variable (s)

/-- Each phase's rule runs with the count raised (R135), which leaves the index and the port alone. -/
theorem exec_dfByte_answers (b : Byte) : Answers (.dfByte b) s (exec (.dfByte b) s) := by
  cases h : s.dfPhase with
  | idle => exact .faulted .dfSequence (.inr ⟨h, .inr ⟨b, rfl⟩⟩) (by simp [exec, execDfByte, h])
  | info =>
    rw [exec_dfByte_of_info h]
    exact .of_carriedOutUnless (dfInfoByte_carriedOutUnless b { s with dfCnt := s.dfCnt + 1 }) fun hp => .inl ⟨h, hp⟩
  | data =>
    rw [exec_dfByte_of_data h]
    exact .of_carriedOutUnless
      (dfDestuff_carriedOutUnless b { s with dfCnt := s.dfCnt + 1 } fun v => dfPayload_carriedOutUnless v _)
      fun hp => .inr ⟨h, hp⟩
  | chk =>
    rw [exec_dfByte_of_chk h]
    exact .of_carriedOutUnless
      (dfDestuff_carriedOutUnless b { s with dfCnt := s.dfCnt + 1 } fun v => .inl (dfChecksum_carriedOut v _))
      False.elim
  | fin => exact .carriedOut (exec_dfByte_of_fin h ▸ dfEnd_carriedOut b { s with dfCnt := s.dfCnt + 1 })
  | drain => exact .carriedOut (exec_dfByte_of_drain h ▸ dfDrop_carriedOut { s with dfCnt := s.dfCnt + 1 })

theorem exec_dfStart_answers (avail : BitVec 16) (peek : Byte) :
    Answers (.dfStart avail peek) s (exec (.dfStart avail peek) s) := by
  by_cases hidle : s.dfPhase = .idle
  · have hdone : CarriedOut s.cmdIn (execDfStart avail peek s) := by
      unfold execDfStart
      rw [if_neg (not_not.2 hidle)]
      dsimp only
      split
      · simp
      split
      · simp
      split <;> simp
    exact .carriedOut hdone
  · exact .faulted .dfSequence (.inl ⟨hidle, avail, peek, rfl⟩) (exec_dfStart_of_running hidle)

theorem exec_dfEmpty_answers : Answers .dfEmpty s (exec .dfEmpty s) := by
  by_cases hidle : s.dfPhase = .idle
  · exact .faulted .dfSequence (.inr ⟨hidle, .inl rfl⟩) (exec_dfEmpty_of_idle hidle)
  by_cases hdrain : s.dfPhase = .drain
  · exact .carriedOut (by simp [exec_dfEmpty_of_drain hdrain])
  · exact .carriedOut (by simp [exec_dfEmpty_of_underrun hidle hdrain])

/-- The index test comes before the test of `DF.rd_valid` (R150). -/
theorem exec_dfRead_answers (k : BitVec 4) : Answers (.dfRead k) s (exec (.dfRead k) s) := by
  by_cases hk : k.toNat < 10
  · cases hvalid : s.rdValid with
    | true => exact .carriedOut (by simp [exec, execDfRead, hk, hvalid])
    | false =>
      exact .faulted .noReading ⟨hvalid, k, rfl, Nat.le_of_lt_succ hk⟩ (by simp [exec, execDfRead, hk, hvalid])
  · exact .faulted .illOperand ⟨k, rfl, Nat.lt_of_succ_le (Nat.le_of_not_lt hk)⟩ (by simp [exec, execDfRead, hk])

/-! ## The health tracker and the recovery sequencer -/

variable (now : Word)

theorem ageCheck_carriedOut : CarriedOut s.cmdIn (s.ageCheck now) := by
  obtain ⟨_, h⟩ | ⟨_, h⟩ := s.ageCheck_cases now <;> simp [h]

theorem exec_htInit_answers : Answers (.htInit now) s (exec (.htInit now) s) := by
  by_cases hidle : s.rcState = .idle
  · exact .carriedOut (by simp [exec_htInit_of_idle hidle])
  · exact .refused ⟨hidle, .inl ⟨now, rfl⟩⟩ (exec_htInit_of_busy hidle)

theorem exec_htGood_answers : Answers (.htGood now) s (exec (.htGood now) s) := by
  obtain ⟨hv, h⟩ | ⟨hv, hbusy, h⟩ | ⟨_, _, h⟩ := execHtGood_cases now s
  · exact .faulted .htUninit ⟨hv, .inl ⟨now, rfl⟩⟩ h
  · exact .refused ⟨hbusy, .inr ⟨hv, .inl ⟨now, rfl⟩⟩⟩ h
  · have hexec : exec (.htGood now) s = (s.countGood now).ageCheck now := h
    exact .carriedOut (hexec ▸ ageCheck_carriedOut (s.countGood now) now)

theorem exec_htBad_answers : Answers (.htBad now) s (exec (.htBad now) s) := by
  obtain ⟨hv, h⟩ | ⟨hv, hbusy, h⟩ | ⟨_, _, h⟩ := execHtBad_cases now s
  · exact .faulted .htUninit ⟨hv, .inr (.inl ⟨now, rfl⟩)⟩ h
  · exact .refused ⟨hbusy, .inr ⟨hv, .inr ⟨now, rfl⟩⟩⟩ h
  · have hexec : exec (.htBad now) s = s.countBad.ageCheck now := h
    exact .carriedOut (hexec ▸ ageCheck_carriedOut s.countBad now)

theorem exec_htQgood_answers : Answers .htQgood s (exec .htQgood s) := by
  cases hv : s.htValid with
  | true => exact .carriedOut (by simp [exec_htQgood_of_valid hv])
  | false => exact .faulted .htUninit ⟨hv, .inr (.inr (.inl rfl))⟩ (exec_htQgood_of_uninit hv)

theorem exec_htQflag_answers : Answers .htQflag s (exec .htQflag s) := by
  cases hv : s.htValid with
  | true => exact .carriedOut (by simp [exec_htQflag_of_valid hv])
  | false => exact .faulted .htUninit ⟨hv, .inr (.inr (.inr rfl))⟩ (exec_htQflag_of_uninit hv)

theorem execRcTick_carriedOut : CarriedOut s.cmdIn (execRcTick now s) := by
  unfold execRcTick State.rcTick
  obtain h | ⟨_, _, h⟩ | ⟨_, _, _, h⟩ | ⟨_, _, _, h⟩ | ⟨_, _, h⟩ := s.rcAdvance_cases Config.params now <;> simp [h]

end

/-! ## Every command -/

/-- Every command has one of the four outcomes. -/
theorem exec_answers (i : Instr) (s : State) : Answers i s (exec i s) := by
  cases i with
  | dfStart avail peek => exact exec_dfStart_answers s avail peek
  | dfByte b => exact exec_dfByte_answers s b
  | dfEmpty => exact exec_dfEmpty_answers s
  | dfRead k => exact exec_dfRead_answers s k
  | htInit now => exact exec_htInit_answers s now
  | htGood now => exact exec_htGood_answers s now
  | htBad now => exact exec_htBad_answers s now
  | htQgood => exact exec_htQgood_answers s
  | htQflag => exact exec_htQflag_answers s
  | rcTick now => exact .carriedOut (execRcTick_carriedOut s now)
  | sysStatus | s8Init | s8Byte | s8Read | s8Check | c16Init | c16Byte | c16Read | c8Init | c8Byte | c8Read | c8Check
  | htSetthr => exact .carriedOut (carriedOut_answer.2 ⟨by decide, by decide, rfl⟩)

/-- The index of a legal state is within the array of its phase (R26, U15). -/
theorem State.DfInv.not_idxPastTheCells {s : State} (h : s.DfInv) : ¬ s.IdxPastTheCells := by
  obtain ⟨-, hinfo, hdata, -⟩ := h
  rintro (⟨hphase, hpast⟩ | ⟨hphase, hpast⟩)
  · obtain ⟨-, hidx, -⟩ := hinfo hphase
    omega
  · obtain ⟨hidx, -⟩ := hdata hphase
    omega

/-- With the index in range every command is answered and leaves the port alone. -/
theorem exec_answered {s : State} (hidx : ¬ s.IdxPastTheCells) (i : Instr) :
    ∃ t r, exec i s = .next t ∧ t.resp = some r ∧ t.cmdIn = s.cmdIn := by
  cases exec_answers i s with
  | carriedOut h =>
    obtain ⟨t, r, hnext, hresp, -, -, hport⟩ := h
    exact ⟨t, r, hnext, hresp, hport⟩
  | refused _ h => exact ⟨_, _, h, rfl, rfl⟩
  | faulted _ _ h => exact ⟨_, _, h, rfl, rfl⟩
  | stopped hpast _ => exact absurd hpast hidx

/-! ## The statements -/

/-- Settles O47: a command by its outcome in a legal state, a word by what it decodes to. -/
theorem nothingIsFatal : Obligations.NothingIsFatal := by
  unfold Obligations.NothingIsFatal
  intro s ⟨_, hdf, _⟩
  have hidx : ¬ s.IdxPastTheCells := hdf.not_idxPastTheCells
  refine ⟨fun i => ?_, fun w rest hport => ?_⟩
  · obtain ⟨t, r, hnext, hresp, -⟩ := exec_answered hidx i
    exact ⟨t, r, hnext, hresp⟩
  · cases hw : decode w with
    | ok i =>
      rw [step_of_decode_eq_ok hport hw]
      exact exec_answered (s := { s with cmdIn := rest }) hidx i
    | error c => exact ⟨_, _, step_of_decode_eq_error hport hw, rfl, rfl⟩

/-- A command answered FAULT raised that fault, and for its cause. -/
theorem exec_faulted {i : Instr} {s t : State} {code : Word} (h : exec i s = .next t)
    (hresp : t.resp = some ⟨.fault, code⟩) : ∃ c : FaultCode, code = c.val ∧ t = s.raiseFault c ∧ FaultCause i s c := by
  have hans := exec_answers i s
  rw [h] at hans
  cases hans with
  | carriedOut hdone => exact absurd rfl (hdone.code_ne hresp).2
  | refused _ hbusy =>
    cases hbusy
    simp [State.afterBusy] at hresp
  | faulted c hcause hraise =>
    cases hraise
    exact ⟨c, by simpa [eq_comm] using hresp, rfl, hcause⟩
  | stopped _ hstop => cases hstop

/-- Settles O48: the two faults of a word from the decoder, the three of a command from its cause. -/
theorem faultsWriteOnlySysFault : Obligations.FaultsWriteOnlySysFault := by
  unfold Obligations.FaultsWriteOnlySysFault
  intro s t w rest code hport hstep hresp
  cases hw : decode w with
  | error c =>
    obtain rfl : { s with cmdIn := rest }.afterFault c.val = t := by
      simpa [step_of_decode_eq_error hport hw] using hstep
    obtain rfl : c.val = code := by simpa [State.afterFault] using hresp
    refine ⟨rfl, ?_⟩
    obtain ⟨rfl, hnone⟩ | ⟨rfl, hrow, hillegal⟩ := decode_eq_error_cases hw
    · exact .inl ⟨rfl, hnone⟩
    · rw [argIndex_argOf] at hillegal
      exact .inr (.inl ⟨rfl, hrow, hillegal⟩)
  | ok i =>
    rw [step_of_decode_eq_ok hport hw] at hstep
    obtain ⟨c, rfl, rfl, hcause⟩ := exec_faulted hstep hresp
    refine ⟨rfl, .inr (.inr ⟨i, rfl, ?_⟩)⟩
    cases c with
    | illOpcode => exact hcause.elim
    | illOperand =>
      obtain ⟨k, rfl, hk⟩ := hcause
      exact absurd (index_le_nine_of_decode_eq_ok hw) (Nat.not_le.2 hk)
    | dfSequence => exact .inl ⟨rfl, hcause⟩
    | htUninit => exact .inr (.inl ⟨rfl, hcause⟩)
    | noReading => exact .inr (.inr ⟨rfl, hcause⟩)

/-- The three commands refuse in one way (R225). -/
theorem exec_of_refuses {i : Instr} {s : State} (h : Refuses i s) : exec i s = .next s.afterBusy := by
  obtain ⟨hbusy, ⟨n, rfl⟩ | ⟨hv, ⟨n, rfl⟩ | ⟨n, rfl⟩⟩⟩ := h
  · exact exec_htInit_of_busy hbusy
  · obtain ⟨-, hrefused, -⟩ := report_of_guards (execHtGood_cases n s)
    exact hrefused hv hbusy
  · obtain ⟨-, hrefused, -⟩ := report_of_guards (execHtBad_cases n s)
    exact hrefused hv hbusy

/-- A command answered BUSY is one of the three. -/
theorem refuses_of_busy {i : Instr} {s t : State} {v : Word} (h : exec i s = .next t)
    (hresp : t.resp = some ⟨.busy, v⟩) : Refuses i s := by
  have hans := exec_answers i s
  rw [h] at hans
  cases hans with
  | carriedOut hdone => exact absurd rfl (hdone.code_ne hresp).1
  | refused hrefuses _ => exact hrefuses
  | faulted c _ hraise =>
    cases hraise
    simp at hresp
  | stopped _ hstop => cases hstop

/-- Settles O50: BUSY is the answer of the three refused commands and of no other, and it is all they leave. -/
theorem busyChangesNothing : Obligations.BusyChangesNothing := by
  unfold Obligations.BusyChangesNothing
  intro i s t h
  have hleaves : Refuses i s → t = s.afterBusy := fun hrefuses => by
    simpa [h] using exec_of_refuses hrefuses
  refine ⟨⟨fun ⟨v, hv⟩ => refuses_of_busy h hv, fun hrefuses => ⟨0#32, ?_⟩⟩,
    fun ⟨v, hv⟩ => hleaves (refuses_of_busy h hv)⟩
  rw [hleaves hrefuses]
  rfl

end Sys2Proof.Machine

/-! PROOFS. Every command that goes on as one of its transitions: the next state written out, with the guards that lead
to it. The invariants and the frames of the following parts are read off these. -/

namespace Sys2Proof.Machine

/-! ## A byte of a running attempt -/

/-- What `DF_BYTE b` does to a running attempt: the rule of each phase, in the order of R136 to R144. -/
inductive ByteStep (b : Byte) (s : State) : State → Prop where
  | infoByte (hphase : s.dfPhase = .info) (hidx : s.dfIdx.toNat < 4) :
      ByteStep b s (State.answer { State.dfStoreInfo s.dfIdx.toNat (Nat.lt_succ_of_lt hidx) b
        { s with dfCnt := s.dfCnt + 1 } with dfIdx := s.dfIdx + 1 } .pending 0#32 [])
  | infoEnd (hphase : s.dfPhase = .info) (hidx : s.dfIdx.toNat = 4) (hdev : s.dfInfo[3] = 0x00#8) :
      ByteStep b s (State.answer { State.dfStoreInfo s.dfIdx.toNat (hidx.trans_lt (Nat.lt_succ_self 4)) b
        { s with dfCnt := s.dfCnt + 1 } with dfPhase := .data, dfIdx := 0#6 } .pending 0#32 [])
  | deviceFailed (hphase : s.dfPhase = .info) (hidx : s.dfIdx.toNat = 4) (hdev : s.dfInfo[3] ≠ 0x00#8) :
      ByteStep b s ((State.dfStoreInfo s.dfIdx.toNat (hidx.trans_lt (Nat.lt_succ_self 4)) b
        { s with dfCnt := s.dfCnt + 1 }).afterFailure .devError)
  | marker (hphase : s.dfPhase = .data ∨ s.dfPhase = .chk) (hesc : s.dfEsc = false) (hb : b = 0x7D#8) :
      ByteStep b s ({ s with dfCnt := s.dfCnt + 1, dfEsc := true }.answer .pending 0#32 [])
  | escapeFailed (hphase : s.dfPhase = .data ∨ s.dfPhase = .chk) (hesc : s.dfEsc = true) (hb : unstuff b = none) :
      ByteStep b s ({ s with dfCnt := s.dfCnt + 1 }.afterFailure .badEscape)
  | payload (v : Byte) (hphase : s.dfPhase = .data) (hidx : s.dfIdx.toNat < 39) (hv : s.Delivers b v) :
      ByteStep b s ({ s with dfCnt := s.dfCnt + 1, dfEsc := false, buf := s.buf.write s.dfIdx.toNat v,
                             dfSum := s.dfSum + v, dfIdx := s.dfIdx + 1 }.answer .pending 0#32 [])
  | payloadEnd (v : Byte) (hphase : s.dfPhase = .data) (hidx : s.dfIdx.toNat = 39) (hv : s.Delivers b v) :
      ByteStep b s ({ s with dfCnt := s.dfCnt + 1, dfEsc := false, buf := s.buf.write s.dfIdx.toNat v,
                             dfSum := s.dfSum + v, dfPhase := .chk }.answer .pending 0#32 [])
  | checksum (hphase : s.dfPhase = .chk) (hv : s.Delivers b (~~~s.dfSum)) :
      ByteStep b s ({ s with dfCnt := s.dfCnt + 1, dfEsc := false, dfPhase := .fin }.answer .pending 0#32 [])
  | checksumFailed {v : Byte} (hphase : s.dfPhase = .chk) (hv : s.Delivers b v) (hne : v ≠ ~~~s.dfSum) :
      ByteStep b s ({ s with dfCnt := s.dfCnt + 1, dfEsc := false }.afterFailure .badChecksum)
  | success (hphase : s.dfPhase = .fin) (hb : b = 0x7E#8) : ByteStep b s s.afterSuccess
  | endFailed (hphase : s.dfPhase = .fin) (hb : b ≠ 0x7E#8) :
      ByteStep b s ({ s with dfCnt := s.dfCnt + 1 }.afterFailure .badEnd)
  | drained (hphase : s.dfPhase = .drain) (hleft : s.dfDrain - 1 ≠ 0#6) :
      ByteStep b s ({ s with dfCnt := s.dfCnt + 1, dfDrain := s.dfDrain - 1 }.answer .pending 0#32 [])
  | drainedLast (hphase : s.dfPhase = .drain) (hleft : s.dfDrain - 1 = 0#6) :
      ByteStep b s ({ s with dfCnt := s.dfCnt + 1, dfDrain := s.dfDrain - 1, dfPhase := .idle }.answer .fail
        s.dfResult.word [])

section
variable {s t : State} {b : Byte}

theorem ByteStep.of_dfInfoByte (hphase : s.dfPhase = .info)
    (h : { s with dfCnt := s.dfCnt + 1 }.dfInfoByte b = .next t) : ByteStep b s t := by
  obtain ⟨hidx, heq⟩ | ⟨hidx, hdev, heq⟩ | ⟨hidx, hdev, heq⟩ | ⟨-, heq⟩ :=
    State.dfInfoByte_cases b { s with dfCnt := s.dfCnt + 1 } <;> cases heq.symm.trans h
  · exact .infoByte hphase hidx
  · exact .infoEnd hphase hidx hdev
  · exact .deviceFailed hphase hidx hdev

/-- De-stuffing adds the marker and the bad escape to what `deliver` does. -/
theorem ByteStep.of_dfDestuff {deliver : Byte → State → Out} (hphase : s.dfPhase = .data ∨ s.dfPhase = .chk)
    (hdel : ∀ v, s.Delivers b v → deliver v { s with dfCnt := s.dfCnt + 1, dfEsc := false } = .next t →
      ByteStep b s t)
    (h : { s with dfCnt := s.dfCnt + 1 }.dfDestuff deliver b = .next t) : ByteStep b s t := by
  obtain ⟨hesc, hb, heq⟩ | ⟨hesc, hb, heq⟩ | ⟨v, hv, heq⟩ :=
    State.dfDestuff_cases deliver b { s with dfCnt := s.dfCnt + 1 }
  · rw [State.dfFail_eq] at heq
    cases heq.symm.trans h
    exact .escapeFailed hphase hesc hb
  · cases heq.symm.trans h
    exact .marker hphase hesc hb
  · exact hdel v hv (heq.symm.trans h)

theorem ByteStep.of_dfPayload (hphase : s.dfPhase = .data) (v : Byte) (hv : s.Delivers b v)
    (h : State.dfPayload v { s with dfCnt := s.dfCnt + 1, dfEsc := false } = .next t) : ByteStep b s t := by
  obtain ⟨hidx, heq⟩ | ⟨hidx, heq⟩ | ⟨-, heq⟩ :=
    State.dfPayload_cases v { s with dfCnt := s.dfCnt + 1, dfEsc := false } <;> cases heq.symm.trans h
  · exact .payload v hphase hidx hv
  · exact .payloadEnd v hphase hidx hv

theorem ByteStep.of_dfChecksum (hphase : s.dfPhase = .chk) (v : Byte) (hv : s.Delivers b v)
    (h : State.dfChecksum v { s with dfCnt := s.dfCnt + 1, dfEsc := false } = .next t) : ByteStep b s t := by
  obtain ⟨hsum, heq⟩ | ⟨hne, heq⟩ :=
    State.dfChecksum_cases v { s with dfCnt := s.dfCnt + 1, dfEsc := false } <;> cases heq.symm.trans h
  · exact .checksum hphase (hsum ▸ hv)
  · exact .checksumFailed hphase hv hne

/-- A byte of a running attempt takes one of the steps of its phase (R135). -/
theorem ByteStep.of_exec (hrunning : s.dfPhase ≠ .idle) (h : exec (.dfByte b) s = .next t) : ByteStep b s t := by
  cases hphase : s.dfPhase with
  | idle => exact absurd hphase hrunning
  | info => exact .of_dfInfoByte hphase (exec_dfByte_of_info hphase ▸ h)
  | data => exact .of_dfDestuff (.inl hphase) (.of_dfPayload hphase) (exec_dfByte_of_data hphase ▸ h)
  | chk => exact .of_dfDestuff (.inr hphase) (.of_dfChecksum hphase) (exec_dfByte_of_chk hphase ▸ h)
  | fin =>
    rw [exec_dfByte_of_fin hphase] at h
    obtain ⟨hb, heq⟩ | ⟨hb, heq⟩ :=
      State.dfEnd_cases b { s with dfCnt := s.dfCnt + 1 } <;> cases heq.symm.trans h
    · exact .success hphase hb
    · exact .endFailed hphase hb
  | drain =>
    rw [exec_dfByte_of_drain hphase] at h
    obtain ⟨hleft, heq⟩ | ⟨hleft, heq⟩ :=
      State.dfDrop_cases { s with dfCnt := s.dfCnt + 1 } <;> cases heq.symm.trans h
    · exact .drainedLast hphase hleft
    · exact .drained hphase hleft

/-- A byte touches no register outside the deframer and the Reading (R20). -/
theorem ByteStep.frame (h : ByteStep b s t) :
    t = { s with dfPhase := t.dfPhase, dfIdx := t.dfIdx, dfEsc := t.dfEsc, dfCnt := t.dfCnt, dfSum := t.dfSum,
                 dfDrain := t.dfDrain, dfResult := t.dfResult, dfInfo := t.dfInfo, buf := t.buf, rd := t.rd,
                 rdValid := t.rdValid, resp := t.resp, events := t.events } := by
  cases h <;> rfl

/-- Every byte is counted (R135). -/
theorem ByteStep.cnt_eq (h : ByteStep b s t) : t.dfCnt = s.dfCnt + 1 := by
  cases h <;> rfl

/-- Only a running attempt takes bytes. -/
theorem ByteStep.running (h : ByteStep b s t) : s.dfPhase ≠ .idle := by
  cases h with
  | marker hphase | escapeFailed hphase => obtain hphase | hphase := hphase <;> simp [hphase]
  | infoByte hphase | infoEnd hphase | deviceFailed hphase | payload _ hphase | payloadEnd _ hphase | checksum hphase
  | checksumFailed hphase | success hphase | endFailed hphase | drained hphase | drainedLast hphase => simp [hphase]

end

/-! ## Any command -/

/-- The update of an accepted report (R173, R174). -/
inductive Counts (s : State) (now : Word) : Instr → State → Prop where
  | good : Counts s now (.htGood now) (s.countGood now)
  | bad : Counts s now (.htBad now) s.countBad

/-- The commands that can end in an answer with nothing written: the nine that read, and a tick that makes no
transition (R68, R193). -/
def mayOnlyAnswer : Instr → Bool
  | .sysStatus | .s8Read | .s8Check _ | .c16Read | .c8Read | .c8Check _ | .dfRead _ | .htQgood | .htQflag
  | .rcTick _ => true
  | .s8Init | .s8Byte _ | .c16Init | .c16Byte _ | .c8Init | .c8Byte _ | .dfStart _ _ | .dfByte _ | .dfEmpty
  | .htInit _ | .htGood _ | .htBad _ | .htSetthr _ => false

/-- The ways in which a command goes on: a fault or the refusal, with what is common to all commands; then unit by unit
what is carried out. -/
inductive Transition : Instr → State → State → Prop where
  | faulted {i : Instr} {s : State} (c : FaultCode) (hcause : FaultCause i s c) : Transition i s (s.raiseFault c)
  | refused {i : Instr} {s : State} (hrefuses : Refuses i s) : Transition i s s.afterBusy
  | answered {i : Instr} {s : State} (v : Word) (hi : mayOnlyAnswer i = true) : Transition i s (s.answer .ok v [])
  | s8Init {s : State} : Transition .s8Init s ({ s with s8Acc := 0x00#8 }.answer .ok 0#32 [])
  | s8Byte {s : State} (b : Byte) : Transition (.s8Byte b) s ({ s with s8Acc := s.s8Acc + b }.answer .ok 0#32 [])
  | c16Init {s : State} : Transition .c16Init s ({ s with c16Acc := 0xFFFF#16 }.answer .ok 0#32 [])
  | c16Byte {s : State} (b : Byte) :
      Transition (.c16Byte b) s ({ s with c16Acc := crc16Step s.c16Acc b }.answer .ok 0#32 [])
  | c8Init {s : State} : Transition .c8Init s ({ s with c8Acc := 0xFF#8 }.answer .ok 0#32 [])
  | c8Byte {s : State} (b : Byte) :
      Transition (.c8Byte b) s ({ s with c8Acc := crc8Step s.c8Acc b }.answer .ok 0#32 [])
  | notReady {s : State} (avail : BitVec 16) (peek : Byte) (hidle : s.dfPhase = .idle)
      (hchannel : avail = 0#16 ∨ peek = 0x7E#8 ∧ avail.toNat < 47) :
      Transition (.dfStart avail peek) s ({ s.cleared with dfResult := .notReady }.answer .fail 2#32 [.tx reqFrame])
  | badStart {s : State} (avail : BitVec 16) (peek : Byte) (hidle : s.dfPhase = .idle)
      (hchannel : avail ≠ 0#16 ∧ peek ≠ 0x7E#8) :
      Transition (.dfStart avail peek) s
        ({ s.cleared with dfResult := .badStart, dfDrain := 60#6, dfPhase := .drain }.answer .pending 0#32
          [.tx reqFrame])
  | started {s : State} (avail : BitVec 16) (peek : Byte) (hidle : s.dfPhase = .idle)
      (hchannel : peek = 0x7E#8 ∧ 47 ≤ avail.toNat) :
      Transition (.dfStart avail peek) s
        ({ s.cleared with dfResult := .none, dfPhase := .info }.answer .pending 0#32 [.tx reqFrame])
  | byte {s t : State} (b : Byte) (h : ByteStep b s t) : Transition (.dfByte b) s t
  | emptied {s : State} (hphase : s.dfPhase = .drain) :
      Transition .dfEmpty s ({ s with dfDrain := 0#6, dfPhase := .idle }.answer .fail s.dfResult.word [])
  | underrun {s : State} (hidle : s.dfPhase ≠ .idle) (hdrain : s.dfPhase ≠ .drain) :
      Transition .dfEmpty s
        ({ s with dfResult := .underrun, dfEsc := false, dfPhase := .idle }.answer .fail 8#32 [])
  | htInit {s : State} (now : Word) (hidle : s.rcState = .idle) :
      Transition (.htInit now) s
        ({ s with htValid := true, htGoodCount := 1#32, htBadStreak := 0#16, htLastGood := now,
                  htQualityFlag := true }.answer .ok 0#32 [])
  | counted {i : Instr} {s u : State} {now : Word} (hcounts : Counts s now i u) (hvalid : s.htValid = true)
      (hidle : s.rcState = .idle) (hage : elapsedNat now u.htLastGood < u.htResetThreshold.toNat) :
      Transition i s (u.answer .ok 0#32 [])
  | fired {i : Instr} {s u : State} {now : Word} (hcounts : Counts s now i u) (hvalid : s.htValid = true)
      (hidle : s.rcState = .idle) (hage : u.htResetThreshold.toNat ≤ elapsedNat now u.htLastGood) :
      Transition i s ((u.startRecovery now).answer .ok 1#32 [.trigger, .pwrOff])
  | htSetthr {s : State} (thr : Word) :
      Transition (.htSetthr thr) s ({ s with htResetThreshold := thr }.answer .ok 0#32 [])
  | poweredOn {s : State} (now : Word) (hstate : s.rcState = .offWait)
      (hwait : Config.params.tOff.toNat ≤ elapsedNat now s.rcT0) :
      Transition (.rcTick now) s ((s.enterWait .onWait now).answer .ok 2#32 [.pwrOn])
  | cleaned {s : State} (now : Word) (hstate : s.rcState = .onWait)
      (hwait : Config.params.tOn.toNat ≤ elapsedNat now s.rcT0) (hclean : Config.params.hasClean = true) :
      Transition (.rcTick now) s ((s.enterWait .cleanWait now).answer .ok 3#32 [.fanClean])
  | completed {s : State} (now : Word)
      (hwait : s.rcState = .onWait ∧ Config.params.tOn.toNat ≤ elapsedNat now s.rcT0 ∧ Config.params.hasClean = false ∨
        s.rcState = .cleanWait ∧ Config.params.tClean.toNat ≤ elapsedNat now s.rcT0) :
      Transition (.rcTick now) s ((s.completeRecovery now).answer .ok 0#32 [])

section
variable {s t : State} {now : Word}

theorem Transition.of_dfStart {avail : BitVec 16} {peek : Byte} (h : exec (.dfStart avail peek) s = .next t) :
    Transition (.dfStart avail peek) s t := by
  by_cases hidle : s.dfPhase = .idle
  · by_cases ha : avail = 0#16
    · cases (exec_dfStart_of_nothing hidle ha).symm.trans h
      exact .notReady _ _ hidle (.inl ha)
    by_cases hp : peek = 0x7E#8
    · by_cases hn : avail.toNat < 47
      · cases (exec_dfStart_of_tooFew hidle ha hp hn).symm.trans h
        exact .notReady _ _ hidle (.inr ⟨hp, hn⟩)
      · cases (exec_dfStart_of_enough hidle hp (Nat.le_of_not_lt hn)).symm.trans h
        exact .started _ _ hidle ⟨hp, Nat.le_of_not_lt hn⟩
    · cases (exec_dfStart_of_badStart hidle ha hp).symm.trans h
      exact .badStart _ _ hidle ⟨ha, hp⟩
  · cases (exec_dfStart_of_running hidle).symm.trans h
    exact .faulted .dfSequence (.inl ⟨hidle, avail, peek, rfl⟩)

theorem Transition.of_dfByte {b : Byte} (h : exec (.dfByte b) s = .next t) : Transition (.dfByte b) s t := by
  by_cases hidle : s.dfPhase = .idle
  · have hfault : exec (.dfByte b) s = .next (s.raiseFault .dfSequence) := by simp [exec, execDfByte, hidle]
    cases hfault.symm.trans h
    exact .faulted .dfSequence (.inr ⟨hidle, .inr ⟨b, rfl⟩⟩)
  · exact .byte b (.of_exec hidle h)

theorem Transition.of_dfEmpty (h : exec .dfEmpty s = .next t) : Transition .dfEmpty s t := by
  by_cases hidle : s.dfPhase = .idle
  · cases (exec_dfEmpty_of_idle hidle).symm.trans h
    exact .faulted .dfSequence (.inr ⟨hidle, .inl rfl⟩)
  by_cases hdrain : s.dfPhase = .drain
  · cases (exec_dfEmpty_of_drain hdrain).symm.trans h
    exact .emptied hdrain
  · cases (exec_dfEmpty_of_underrun hidle hdrain).symm.trans h
    exact .underrun hidle hdrain

/-- The index test comes before the test of `DF.rd_valid` (R150). -/
theorem Transition.of_dfRead {k : BitVec 4} (h : exec (.dfRead k) s = .next t) : Transition (.dfRead k) s t := by
  simp only [exec, execDfRead] at h
  split at h
  · next hk =>
    split at h
    · cases h
      exact .answered _ rfl
    · next hvalid =>
      cases h
      exact .faulted .noReading ⟨by simpa using hvalid, k, rfl, Nat.le_of_lt_succ hk⟩
  · next hk =>
    cases h
    exact .faulted .illOperand ⟨k, rfl, Nat.lt_of_succ_le (Nat.le_of_not_lt hk)⟩

theorem Transition.of_htInit (h : exec (.htInit now) s = .next t) : Transition (.htInit now) s t := by
  by_cases hidle : s.rcState = .idle
  · cases (exec_htInit_of_idle hidle).symm.trans h
    exact .htInit now hidle
  · cases (exec_htInit_of_busy hidle).symm.trans h
    exact .refused ⟨hidle, .inl ⟨now, rfl⟩⟩

/-- The age check after the count of an accepted report (R175). -/
theorem Transition.of_ageCheck {i : Instr} {u : State} (hcounts : Counts s now i u) (hvalid : s.htValid = true)
    (hidle : s.rcState = .idle) (h : u.ageCheck now = .next t) : Transition i s t := by
  obtain ⟨hage, heq⟩ | ⟨hage, heq⟩ := u.ageCheck_cases now <;> cases heq.symm.trans h
  · exact .fired hcounts hvalid hidle hage
  · exact .counted hcounts hvalid hidle hage

theorem Transition.of_htGood (h : exec (.htGood now) s = .next t) : Transition (.htGood now) s t := by
  obtain ⟨hvalid, heq⟩ | ⟨hvalid, hbusy, heq⟩ | ⟨hvalid, hidle, heq⟩ := execHtGood_cases now s
  · cases heq.symm.trans h
    exact .faulted .htUninit ⟨hvalid, .inl ⟨now, rfl⟩⟩
  · cases heq.symm.trans h
    exact .refused ⟨hbusy, .inr ⟨hvalid, .inl ⟨now, rfl⟩⟩⟩
  · exact .of_ageCheck .good hvalid hidle (heq.symm.trans h)

theorem Transition.of_htBad (h : exec (.htBad now) s = .next t) : Transition (.htBad now) s t := by
  obtain ⟨hvalid, heq⟩ | ⟨hvalid, hbusy, heq⟩ | ⟨hvalid, hidle, heq⟩ := execHtBad_cases now s
  · cases heq.symm.trans h
    exact .faulted .htUninit ⟨hvalid, .inr (.inl ⟨now, rfl⟩)⟩
  · cases heq.symm.trans h
    exact .refused ⟨hbusy, .inr ⟨hvalid, .inr ⟨now, rfl⟩⟩⟩
  · exact .of_ageCheck .bad hvalid hidle (heq.symm.trans h)

theorem Transition.of_htQgood (h : exec .htQgood s = .next t) : Transition .htQgood s t := by
  cases hvalid : s.htValid with
  | true =>
    cases (exec_htQgood_of_valid hvalid).symm.trans h
    exact .answered _ rfl
  | false =>
    cases (exec_htQgood_of_uninit hvalid).symm.trans h
    exact .faulted .htUninit ⟨hvalid, .inr (.inr (.inl rfl))⟩

theorem Transition.of_htQflag (h : exec .htQflag s = .next t) : Transition .htQflag s t := by
  cases hvalid : s.htValid with
  | true =>
    cases (exec_htQflag_of_valid hvalid).symm.trans h
    exact .answered _ rfl
  | false =>
    cases (exec_htQflag_of_uninit hvalid).symm.trans h
    exact .faulted .htUninit ⟨hvalid, .inr (.inr (.inr rfl))⟩

theorem Transition.of_rcTick (h : exec (.rcTick now) s = .next t) : Transition (.rcTick now) s t := by
  simp only [exec, execRcTick, State.rcTick] at h
  obtain heq | ⟨hrc, hwait, heq⟩ | ⟨hrc, hwait, hclean, heq⟩ | ⟨hrc, hwait, hclean, heq⟩ | ⟨hrc, hwait, heq⟩ :=
    s.rcAdvance_cases Config.params now <;> rw [heq] at h <;> cases h
  · exact .answered _ rfl
  · exact .poweredOn now hrc hwait
  · exact .cleaned now hrc hwait hclean
  · exact .completed now (.inl ⟨hrc, hwait, hclean⟩)
  · exact .completed now (.inr ⟨hrc, hwait⟩)

/-- Every command that goes on takes one of the transitions. -/
theorem exec_transition {i : Instr} (h : exec i s = .next t) : Transition i s t := by
  cases i with
  | dfStart avail peek => exact .of_dfStart h
  | dfByte b => exact .of_dfByte h
  | dfEmpty => exact .of_dfEmpty h
  | dfRead k => exact .of_dfRead h
  | htInit now => exact .of_htInit h
  | htGood now => exact .of_htGood h
  | htBad now => exact .of_htBad h
  | htQgood => exact .of_htQgood h
  | htQflag => exact .of_htQflag h
  | rcTick now => exact .of_rcTick h
  | s8Init => cases h; exact .s8Init
  | s8Byte b => cases h; exact .s8Byte b
  | c16Init => cases h; exact .c16Init
  | c16Byte b => cases h; exact .c16Byte b
  | c8Init => cases h; exact .c8Init
  | c8Byte b => cases h; exact .c8Byte b
  | htSetthr thr => cases h; exact .htSetthr thr
  | sysStatus | s8Read | s8Check | c16Read | c8Read | c8Check => cases h; exact .answered _ rfl

/-- A property of the registers that every transition keeps, a fault among them, is kept by every step; the port is the
host's (R5, R85). -/
theorem step_keeps {P : State → Prop}
    (hport : ∀ (u : State) (rest : List CommandWord), P u → P { u with cmdIn := rest })
    (hkeeps : ∀ {i : Instr} {u v : State}, Transition i u v → P u → P v)
    (hfault : ∀ (u : State) (c : FaultCode), P u → P (u.raiseFault c)) (hs : P s) (h : step s = .next t) : P t := by
  obtain ⟨w, rest, -, ⟨i, -, hexec⟩ | ⟨c, -, rfl⟩⟩ := step_eq_next h
  · exact hkeeps (exec_transition hexec) (hport s rest hs)
  · exact hfault _ c (hport s rest hs)

end

end Sys2Proof.Machine

/-! PROOFS. What every step keeps: the canonical frame buffer, the coverage of `DF.sum`, and the ranges of the
registers (10_state.md sections 4 to 6, 43_deframer.md section 3). -/

namespace Sys2Proof.Machine

/-! ## The frame buffer -/

section
variable {i : Instr} {s t : State} {b : Byte}

/-- The one write of a byte goes to a cell below 40 (R139). -/
theorem ByteStep.buf_wf (h : ByteStep b s t) (hs : s.buf.wf = true) : t.buf.wf = true := by
  cases h with
  | payload v _ hidx => exact Memory.wf_write v hs (Nat.lt_succ_of_lt hidx)
  | payloadEnd v _ hidx => exact Memory.wf_write v hs (hidx.trans_lt (Nat.lt_succ_self 39))
  | infoByte | infoEnd | deviceFailed | marker | escapeFailed | checksum | checksumFailed | success | endFailed
  | drained | drainedLast => exact hs

/-- The frame buffer is written by `DF_BYTE` only (R33). -/
theorem Transition.buf_eq (h : Transition i s t) (hi : ∀ b, i ≠ .dfByte b) : t.buf = s.buf := by
  cases h with
  | byte b => exact absurd rfl (hi b)
  | counted hcounts | fired hcounts => cases hcounts <;> rfl
  | _ => rfl

theorem Transition.buf_wf (h : Transition i s t) (hs : s.buf.wf = true) : t.buf.wf = true := by
  by_cases hi : ∃ b, i = .dfByte b
  · obtain ⟨b, rfl⟩ := hi
    cases h with
    | byte _ h => exact h.buf_wf hs
    | faulted | refused | answered => exact hs
    | counted hcounts | fired hcounts => cases hcounts
  · rw [h.buf_eq fun b hb => hi ⟨b, hb⟩]
    exact hs

theorem step_buf_wf (hs : s.buf.wf = true) (h : step s = .next t) : t.buf.wf = true :=
  step_keeps (P := fun s => s.buf.wf = true) (fun _ _ hu => hu) Transition.buf_wf (fun _ _ hu => hu) hs h

/-! ## The coverage of `DF.sum` -/

/-- A failed attempt drains, or has ended (R145). -/
theorem State.afterFailure_dfPhase (s : State) (r : DfResult) :
    (s.afterFailure r).dfPhase = .idle ∨ (s.afterFailure r).dfPhase = .drain := by
  by_cases hleft : 47 - s.dfCnt.toNat = 0 <;> simp [State.afterFailure, hleft]

/-- Outside the four phases that take a frame `DF.sum` is not read. -/
theorem sumInv_of_idle_or_drain (h : t.dfPhase = .idle ∨ t.dfPhase = .drain) : t.SumInv := by
  obtain h | h := h <;> simp [State.SumInv, h]

/-- The info bytes up to the one just stored. -/
theorem take_succ_toList_set (info : Vector Byte 5) {k : Nat} (hk : k < 5) (b : Byte) :
    (info.set k b).toList.take (k + 1) = info.toList.take k ++ [b] := by
  rw [Vector.toList_set, List.take_succ_eq_append_getElem (by simpa using hk), List.take_set_of_le (Nat.le_refl k)]
  simp

/-- Storing an info byte keeps the sum of those after the first (R136, R140). -/
theorem sum_dfStoreInfo {k : Nat} (hk : k < 5) (hsum : s.dfSum = sum8 ((s.dfInfo.toList.take k).drop 1)) (b : Byte) :
    (s.dfStoreInfo k hk b).dfSum = sum8 (((s.dfStoreInfo k hk b).dfInfo.toList.take (k + 1)).drop 1) := by
  have hlen : (s.dfInfo.toList.take k).length = k := by simp; omega
  rw [State.dfStoreInfo_dfInfo, take_succ_toList_set, List.drop_one, sum8_tail_append, hlen, ← List.drop_one, ← hsum]
  rfl

/-- A delivered payload value goes into the sum and behind the values before it (R139). -/
theorem sum_write {info : List Byte} {m : Memory} {sum : Byte} {n : Nat} (hm : m.wf = true)
    (hsum : sum = sum8 (info ++ m.bytes n)) (v : Byte) : sum + v = sum8 (info ++ (m.write n v).bytes (n + 1)) := by
  rw [Memory.bytes_write n v hm, ← List.append_assoc, sum8_append_singleton, hsum]

theorem ByteStep.sumInv (h : ByteStep b s t) (hwf : s.buf.wf = true) (hs : s.SumInv) : t.SumInv := by
  obtain ⟨hinfo, hdata, hend, hdev⟩ := hs
  cases h with
  | infoByte hphase hidx =>
    have hnext : (s.dfIdx + 1).toNat = s.dfIdx.toNat + 1 := by bv_omega
    have hsum := sum_dfStoreInfo (Nat.lt_succ_of_lt hidx) (hinfo hphase) b
    rw [← hnext] at hsum
    exact ⟨fun _ => hsum, by simp [hphase], by simp [hphase], by simp [hphase]⟩
  | infoEnd hphase hidx hzero =>
    have hk : s.dfIdx.toNat < 5 := hidx.trans_lt (Nat.lt_succ_self 4)
    have hsum := sum_dfStoreInfo hk (hinfo hphase) b
    rw [List.take_of_length_le (by simp [hidx])] at hsum
    have hkeep : (s.dfStoreInfo s.dfIdx.toNat hk b).dfInfo[3] = 0x00#8 :=
      (Vector.getElem_set_ne hk _ (by omega)).trans hzero
    exact ⟨by simp, fun _ => hsum.trans (by rw [Memory.bytes]; simp), by simp, fun _ => hkeep⟩
  | marker hphase hesc => exact ⟨hinfo, hdata, hend, hdev⟩
  | payload v hphase hidx =>
    have hnext : (s.dfIdx + 1).toNat = s.dfIdx.toNat + 1 := by bv_omega
    have hsum := sum_write hwf (hdata hphase) v
    rw [← hnext] at hsum
    exact ⟨by simp [hphase], fun _ => hsum, by simp [hphase], fun _ => hdev (.inl hphase)⟩
  | payloadEnd v hphase hidx =>
    have hsum := sum_write hwf (hdata hphase) v
    rw [hidx] at hsum
    exact ⟨by simp, by simp, fun _ => by simpa [hidx, bufCells] using hsum, fun _ => hdev (.inl hphase)⟩
  | checksum hphase =>
    exact ⟨by simp, by simp, fun _ => hend (.inl hphase), fun _ => hdev (.inr (.inl hphase))⟩
  | drained hphase => exact sumInv_of_idle_or_drain (.inr hphase)
  | success | drainedLast => exact sumInv_of_idle_or_drain (.inl rfl)
  | deviceFailed | escapeFailed | checksumFailed | endFailed =>
    exact sumInv_of_idle_or_drain (State.afterFailure_dfPhase _ _)

/-- A started attempt has taken nothing; a command outside the deframer leaves all that the invariant reads. -/
theorem Transition.sumInv (h : Transition i s t) (hwf : s.buf.wf = true) (hs : s.SumInv) : t.SumInv := by
  cases h with
  | byte _ h => exact h.sumInv hwf hs
  | notReady _ _ hidle => exact sumInv_of_idle_or_drain (.inl hidle)
  | badStart => exact sumInv_of_idle_or_drain (.inr rfl)
  | started => exact ⟨fun _ => rfl, by simp, by simp, by simp⟩
  | emptied | underrun => exact sumInv_of_idle_or_drain (.inl rfl)
  | counted hcounts | fired hcounts => cases hcounts <;> exact hs
  | faulted | refused | answered | s8Init | s8Byte | c16Init | c16Byte | c8Init | c8Byte | htInit | htSetthr
  | poweredOn | cleaned | completed => exact hs

end

/-- Settles O24: the coverage step by step, on canonical buffers. -/
theorem everyStepKeepsTheChecksumCoverage : Obligations.EveryStepKeepsTheChecksumCoverage := by
  unfold Obligations.EveryStepKeepsTheChecksumCoverage
  intro s t hwf hs h
  exact step_keeps (P := fun s => s.buf.wf = true ∧ s.SumInv) (fun _ _ hu => hu)
    (fun htrans hu => ⟨htrans.buf_wf hu.1, htrans.sumInv hu.1 hu.2⟩) (fun _ _ hu => hu) ⟨hwf, hs⟩ h

/-! ## The ranges of the deframer's registers: what a state of each phase has to show -/

section
variable {i : Instr} {s t : State} {b : Byte}

theorem dfInv_of_idle (hphase : t.dfPhase = .idle) (hesc : t.dfEsc = false) (hcnt : t.dfCnt.toNat ≤ 88)
    (hdrain : t.dfDrain = 0#6) (hvalid : t.dfResult = .ok → t.rdValid = true) : t.DfInv := by
  simpa [State.DfInv, hphase, hesc, hcnt, hdrain] using hvalid

theorem dfInv_of_info (hphase : t.dfPhase = .info) (hesc : t.dfEsc = false) (hidx : t.dfIdx.toNat ≤ 4)
    (hcnt : t.dfCnt.toNat = t.dfIdx.toNat) (hdrain : t.dfDrain = 0#6) (hresult : t.dfResult = .none) : t.DfInv := by
  simp [State.DfInv, hphase, hesc, hidx, hcnt, hdrain, hresult]

theorem dfInv_of_data (hphase : t.dfPhase = .data) (hidx : t.dfIdx.toNat ≤ 39)
    (hlow : 5 + t.dfIdx.toNat + t.escNat ≤ t.dfCnt.toNat) (hhigh : t.dfCnt.toNat ≤ 5 + 2 * t.dfIdx.toNat + t.escNat)
    (hdrain : t.dfDrain = 0#6) (hresult : t.dfResult = .none) : t.DfInv := by
  simp [State.DfInv, hphase, hidx, hlow, hhigh, hdrain, hresult]

theorem dfInv_of_chk (hphase : t.dfPhase = .chk) (hidx : t.dfIdx.toNat = 39) (hlow : 45 + t.escNat ≤ t.dfCnt.toNat)
    (hhigh : t.dfCnt.toNat ≤ 85 + t.escNat) (hdrain : t.dfDrain = 0#6) (hresult : t.dfResult = .none) : t.DfInv := by
  simp [State.DfInv, hphase, hidx, hlow, hhigh, hdrain, hresult]

theorem dfInv_of_fin (hphase : t.dfPhase = .fin) (hesc : t.dfEsc = false) (hlow : 46 ≤ t.dfCnt.toNat)
    (hhigh : t.dfCnt.toNat ≤ 87) (hdrain : t.dfDrain = 0#6) (hresult : t.dfResult = .none) : t.DfInv := by
  simp [State.DfInv, hphase, hesc, hlow, hhigh, hdrain, hresult]

/-- The bytes that a drain counts: 60 after a bad start, 47 after another failure (R146). -/
abbrev State.DrainCounts (s : State) : Prop :=
  s.dfResult = .badStart ∧ s.dfCnt.toNat + s.dfDrain.toNat = 60 ∨
    (s.dfResult = .devError ∨ s.dfResult = .badEscape ∨ s.dfResult = .badChecksum) ∧
      s.dfCnt.toNat + s.dfDrain.toNat = 47

theorem dfInv_of_drain (hphase : t.dfPhase = .drain) (hesc : t.dfEsc = false) (hdrain : 1 ≤ t.dfDrain.toNat)
    (hcounts : t.DrainCounts) : t.DfInv := by
  have hok : t.dfResult ≠ .ok := by
    obtain ⟨h, -⟩ | ⟨h | h | h, -⟩ := hcounts <;> simp [h]
  simpa [State.DfInv, hphase, hesc, hdrain, hok] using hcounts

/-- A failure with at most 88 bytes consumed; only one that can come before the 47th byte leaves some to drain. -/
theorem dfInv_afterFailure {r : DfResult} (hcnt : s.dfCnt.toNat ≤ 88) (hok : r ≠ .ok)
    (hearly : s.dfCnt.toNat < 47 → r = .devError ∨ r = .badEscape ∨ r = .badChecksum) : (s.afterFailure r).DfInv := by
  by_cases hleft : s.dfCnt.toNat < 47
  · have hpos : ¬ 47 - s.dfCnt.toNat = 0 := by omega
    have hdrain : (s.afterFailure r).dfDrain.toNat = 47 - s.dfCnt.toNat := Nat.mod_eq_of_lt (by omega)
    refine dfInv_of_drain (if_neg hpos) rfl (by omega) (.inr ⟨hearly hleft, ?_⟩)
    rw [hdrain]
    exact Nat.add_sub_cancel' hleft.le
  · have hzero : 47 - s.dfCnt.toNat = 0 := by omega
    exact dfInv_of_idle (if_pos hzero) rfl hcnt (by simp [State.afterFailure, hzero]) fun h => absurd h hok

/-! ## Every step keeps them -/

/-- A running attempt has consumed at most 87 bytes (R28). -/
theorem State.DfInv.cnt_le (hs : s.DfInv) (hrunning : s.dfPhase ≠ .idle) : s.dfCnt.toNat ≤ 87 := by
  obtain ⟨-, hinfo, hdata, hchk, hfin, hdrain, -⟩ := hs
  have hesc : s.escNat ≤ 1 := Bool.toNat_le _
  cases hphase : s.dfPhase with
  | idle => exact absurd hphase hrunning
  | info => have := hinfo hphase; omega
  | data => have := hdata hphase; omega
  | chk => have := hchk hphase; omega
  | fin => have := hfin hphase; omega
  | drain => have := hdrain hphase; omega

/-- So the next byte does not wrap the count. -/
theorem State.DfInv.cnt_succ (hs : s.DfInv) (hrunning : s.dfPhase ≠ .idle) :
    (s.dfCnt + 1).toNat = s.dfCnt.toNat + 1 := by
  have := hs.cnt_le hrunning
  bv_omega

theorem ByteStep.dfInv (h : ByteStep b s t) (hs : s.DfInv) : t.DfInv := by
  have hcnt := hs.cnt_succ h.running
  have hle : (s.dfCnt + 1).toNat ≤ 88 := hcnt.trans_le (Nat.succ_le_succ (hs.cnt_le h.running))
  have hesc : s.escNat ≤ 1 := Bool.toNat_le _
  obtain ⟨-, hinfo, hdata, hchk, hfin, hdrain, hnodrain, hnone, -⟩ := hs
  cases h with
  | infoByte hphase hidx =>
    have hnext : (s.dfIdx + 1).toNat = s.dfIdx.toNat + 1 := by bv_omega
    obtain ⟨hnoesc, -, hcount⟩ := hinfo hphase
    exact dfInv_of_info hphase hnoesc (hnext.trans_le hidx) (hcnt.trans ((congrArg _ hcount).trans hnext.symm))
      (hnodrain (by simp [hphase])) (hnone (.inl hphase))
  | infoEnd hphase hidx =>
    obtain ⟨hnoesc, -, hcount⟩ := hinfo hphase
    exact dfInv_of_data rfl (Nat.zero_le _) (by simp [State.escNat, hnoesc]; omega)
      (by simp [State.escNat, hnoesc]; omega) (hnodrain (by simp [hphase])) (hnone (.inl hphase))
  | deviceFailed => exact dfInv_afterFailure hle (by simp) (by simp)
  | marker hphase hnoesc =>
    have hzero : s.escNat = 0 := by simp [State.escNat, hnoesc]
    obtain hphase | hphase := hphase
    · obtain ⟨hidx, hlow, hhigh⟩ := hdata hphase
      exact dfInv_of_data hphase hidx (by simp [State.escNat]; omega) (by simp [State.escNat]; omega)
        (hnodrain (by simp [hphase])) (hnone (.inr (.inl hphase)))
    · obtain ⟨hidx, hlow, hhigh⟩ := hchk hphase
      exact dfInv_of_chk hphase hidx (by simp [State.escNat]; omega) (by simp [State.escNat]; omega)
        (hnodrain (by simp [hphase])) (hnone (.inr (.inr (.inl hphase))))
  | escapeFailed => exact dfInv_afterFailure hle (by simp) (by simp)
  | payload v hphase hidx =>
    have hnext : (s.dfIdx + 1).toNat = s.dfIdx.toNat + 1 := by bv_omega
    obtain ⟨-, hlow, hhigh⟩ := hdata hphase
    exact dfInv_of_data hphase (hnext.trans_le hidx) (by simp [State.escNat]; omega)
      (by simp [State.escNat]; omega) (hnodrain (by simp [hphase])) (hnone (.inr (.inl hphase)))
  | payloadEnd v hphase hidx =>
    obtain ⟨-, hlow, hhigh⟩ := hdata hphase
    exact dfInv_of_chk rfl hidx (by simp [State.escNat]; omega) (by simp [State.escNat]; omega)
      (hnodrain (by simp [hphase])) (hnone (.inr (.inl hphase)))
  | checksum hphase =>
    obtain ⟨-, hlow, hhigh⟩ := hchk hphase
    exact dfInv_of_fin rfl rfl (by simp; omega) (by simp; omega) (hnodrain (by simp [hphase]))
      (hnone (.inr (.inr (.inl hphase))))
  | checksumFailed => exact dfInv_afterFailure hle (by simp) (by simp)
  | success hphase =>
    obtain ⟨hnoesc, -⟩ := hfin hphase
    exact dfInv_of_idle rfl hnoesc hle (hnodrain (by simp [hphase])) fun _ => rfl
  | endFailed hphase =>
    obtain ⟨-, hlow, -⟩ := hfin hphase
    exact dfInv_afterFailure hle (by simp) fun hearly => absurd (hcnt.symm.trans_lt hearly) (by omega)
  | drained hphase hleft =>
    obtain ⟨hnoesc, hpos, hcounts⟩ := hdrain hphase
    have hrest : (s.dfDrain - 1).toNat = s.dfDrain.toNat - 1 := by bv_omega
    have hsum : (s.dfCnt + 1).toNat + (s.dfDrain - 1).toNat = s.dfCnt.toNat + s.dfDrain.toNat := by omega
    exact dfInv_of_drain hphase hnoesc (by simp; bv_omega)
      (hcounts.imp (And.imp_right hsum.trans) (And.imp_right hsum.trans))
  | drainedLast hphase hleft =>
    obtain ⟨hnoesc, -, hcounts⟩ := hdrain hphase
    refine dfInv_of_idle rfl hnoesc hle hleft fun hok => ?_
    obtain ⟨h, -⟩ | ⟨h | h | h, -⟩ := hcounts <;> cases h.symm.trans hok

theorem Transition.dfInv (h : Transition i s t) (hs : s.DfInv) : t.DfInv := by
  cases h with
  | byte _ h => exact h.dfInv hs
  | notReady _ _ hidle =>
    obtain ⟨-, -, -, -, -, -, hnodrain, -⟩ := hs
    exact dfInv_of_idle hidle rfl (Nat.zero_le _) (hnodrain (by simp [hidle])) (by simp)
  | badStart => exact dfInv_of_drain rfl rfl (by simp) (.inl ⟨rfl, rfl⟩)
  | started _ _ hidle =>
    obtain ⟨-, -, -, -, -, -, hnodrain, -⟩ := hs
    exact dfInv_of_info rfl rfl (Nat.zero_le _) rfl (hnodrain (by simp [hidle])) rfl
  | emptied hphase =>
    have hle := hs.cnt_le (by simp [hphase])
    obtain ⟨-, -, -, -, -, hdrain, -⟩ := hs
    obtain ⟨hnoesc, -, hcounts⟩ := hdrain hphase
    refine dfInv_of_idle rfl hnoesc (Nat.le_succ_of_le hle) rfl fun hok => ?_
    obtain ⟨h, -⟩ | ⟨h | h | h, -⟩ := hcounts <;> cases h.symm.trans hok
  | underrun hidle hdrain =>
    have hle := hs.cnt_le hidle
    obtain ⟨-, -, -, -, -, -, hnodrain, -⟩ := hs
    exact dfInv_of_idle rfl rfl (Nat.le_succ_of_le hle) (hnodrain hdrain) (by simp)
  | counted hcounts | fired hcounts => cases hcounts <;> exact hs
  | faulted | refused | answered | s8Init | s8Byte | c16Init | c16Byte | c8Init | c8Byte | htInit | htSetthr
  | poweredOn | cleaned | completed => exact hs

/-! ## The health registers -/

/-- The flag is 0 exactly from a streak of 5 on (R41 (i)). -/
abbrev State.FlagInv (s : State) : Prop := s.htQualityFlag = false ↔ 5 ≤ s.htBadStreak.toNat

/-- A counted failure raises the streak up to its limit (R37). -/
theorem State.countBad_htBadStreak_toNat (s : State) :
    s.countBad.htBadStreak.toNat = min (s.htBadStreak.toNat + 1) 0xFFFF :=
  satInc_toNat s.htBadStreak

theorem State.countBad_flagInv (hs : s.FlagInv) : s.countBad.FlagInv := by
  have hstreak := s.countBad_htBadStreak_toNat
  have hlimit := s.htBadStreak.isLt
  have hflag : s.countBad.htQualityFlag = if 5 ≤ s.countBad.htBadStreak.toNat then false else s.htQualityFlag := rfl
  rw [State.FlagInv, hflag]
  split
  · next h => exact iff_of_true rfl h
  · next h => exact iff_of_false (fun hfalse => by have := hs.1 hfalse; omega) h

/-- An accepted report keeps what holds of the health registers once they exist (R173, R174). -/
theorem Counts.htInv {u : State} {now : Word} (h : Counts s now i u)
    (hs : s.FlagInv ∧ 1 ≤ s.htGoodCount.toNat) : u.FlagInv ∧ 1 ≤ u.htGoodCount.toNat := by
  cases h with
  | good =>
    refine ⟨by simp [State.FlagInv], ?_⟩
    rw [State.countGood_htGoodCount, satInc_toNat]
    omega
  | bad => exact ⟨State.countBad_flagInv hs.1, hs.2⟩

/-- An accepted report leaves the registers of the sequencer and `HT.valid`. -/
theorem Counts.frame {u : State} {now : Word} (h : Counts s now i u) :
    u = { s with htGoodCount := u.htGoodCount, htBadStreak := u.htBadStreak, htLastGood := u.htLastGood,
                 htQualityFlag := u.htQualityFlag } := by
  cases h <;> rfl

theorem Counts.rcState_eq {u : State} {now : Word} (h : Counts s now i u) : u.rcState = s.rcState :=
  (congrArg State.rcState h.frame :)

theorem Counts.htValid_eq {u : State} {now : Word} (h : Counts s now i u) : u.htValid = s.htValid :=
  (congrArg State.htValid h.frame :)

theorem Transition.htInv (h : Transition i s t) (hs : s.HtInv) : t.HtInv := by
  obtain ⟨hregs, hbusy, hclean⟩ := hs
  cases h with
  | byte _ h =>
    rw [h.frame]
    exact ⟨hregs, hbusy, hclean⟩
  | htInit now hidle => exact ⟨fun _ => by simp, by simp [hidle], by simp [hidle]⟩
  | counted hcounts hvalid hidle =>
    have hrc := hcounts.rcState_eq.trans hidle
    exact ⟨fun _ => hcounts.htInv (hregs hvalid), by simp [hrc], by simp [hrc]⟩
  | fired hcounts hvalid hidle =>
    exact ⟨fun _ => hcounts.htInv (hregs hvalid), fun _ => hcounts.htValid_eq.trans hvalid, by simp⟩
  | poweredOn now hstate => exact ⟨hregs, fun _ => hbusy (by simp [hstate]), by simp⟩
  | cleaned now hstate _ hopt => exact ⟨hregs, fun _ => hbusy (by simp [hstate]), fun _ => hopt⟩
  | completed => exact ⟨hregs, by simp, by simp⟩
  | faulted | refused | answered | s8Init | s8Byte | c16Init | c16Byte | c8Init | c8Byte | notReady | badStart | started
  | emptied | underrun | htSetthr => exact ⟨hregs, hbusy, hclean⟩

end

/-- Settles O43: the three parts of the invariant, each kept by every transition. -/
theorem everyStepKeepsTheLegalStates : Obligations.EveryStepKeepsTheLegalStates := by
  unfold Obligations.EveryStepKeepsTheLegalStates
  intro s t hs h
  refine step_keeps (P := State.Inv) (fun _ _ hu => hu) ?_ (fun _ _ hu => hu) hs h
  rintro i u v htrans ⟨hwf, hdf, hht⟩
  exact ⟨htrans.buf_wf hwf, htrans.dfInv hdf, htrans.htInv hht⟩

end Sys2Proof.Machine

/-! PROOFS. The reports since the last accepted `HT_INIT`: what a command adds to them, the registers that count them,
and the quality flag they determine (44_health.md section 5). -/

namespace Sys2Proof.Machine

section
variable {i : Instr} {s t u : State} {log : List Bool} {now : Word}

/-! ## What a command adds to the accepted reports -/

theorem reportsAfter_of_mayOnlyAnswer (hi : mayOnlyAnswer i = true) (s : State) (log : List Bool) :
    reportsAfter i s log = log := by
  cases i with
  | htInit | htGood | htBad => cases hi
  | _ => rfl

/-- A refused command is not accepted (R180). -/
theorem reportsAfter_of_refuses (h : Refuses i s) (log : List Bool) : reportsAfter i s log = log := by
  obtain ⟨hbusy, ⟨n, rfl⟩ | ⟨-, ⟨n, rfl⟩ | ⟨n, rfl⟩⟩⟩ := h <;>
    simp [reportsAfter, State.acceptsReport, State.rcBusy, hbusy]

/-- Nor is a faulted one (R178). -/
theorem reportsAfter_of_faultCause {c : FaultCode} (h : FaultCause i s c) (log : List Bool) :
    reportsAfter i s log = log := by
  cases c with
  | illOpcode => exact h.elim
  | illOperand =>
    obtain ⟨k, rfl, -⟩ := h
    rfl
  | dfSequence => obtain ⟨-, a, p, rfl⟩ | ⟨-, rfl | ⟨b, rfl⟩⟩ := h <;> rfl
  | htUninit =>
    obtain ⟨hvalid, ⟨n, rfl⟩ | ⟨n, rfl⟩ | rfl | rfl⟩ := h <;> simp [reportsAfter, State.acceptsReport, hvalid]
  | noReading =>
    obtain ⟨-, k, rfl, -⟩ := h
    rfl

theorem acceptsReport_of_valid_of_idle (hvalid : s.htValid = true) (hidle : s.rcState = .idle) :
    s.acceptsReport = true := by
  simp [State.acceptsReport, State.rcBusy, hvalid, hidle]

/-! ## The count of failures -/

/-- An accepted report counts as the log does: a success empties the head, a failure lengthens it (R173, R174). -/
theorem Counts.streakInv (h : Counts s now i u) (hvalid : s.htValid = true) (hidle : s.rcState = .idle)
    (hs : s.StreakInv log) : u.StreakInv (reportsAfter i s log) := by
  intro _
  obtain ⟨hstreak, hflag⟩ := hs hvalid
  have haccepts := acceptsReport_of_valid_of_idle hvalid hidle
  cases h with
  | good => simp [reportsAfter, haccepts, failuresSince]
  | bad =>
    refine ⟨?_, State.countBad_flagInv hflag⟩
    simp only [reportsAfter, haccepts, if_true, failuresSince]
    rw [State.countBad_htBadStreak_toNat, hstreak]
    omega

theorem Transition.streakInv (h : Transition i s t) (hs : s.StreakInv log) : t.StreakInv (reportsAfter i s log) := by
  cases h with
  | faulted c hcause =>
    rw [reportsAfter_of_faultCause hcause]
    exact hs
  | refused hrefuses =>
    rw [reportsAfter_of_refuses hrefuses]
    exact hs
  | answered v hi =>
    rw [reportsAfter_of_mayOnlyAnswer hi]
    exact hs
  | byte b h =>
    rw [h.frame]
    exact hs
  | htInit now hidle =>
    intro _
    simp [reportsAfter, State.rcBusy, hidle, failuresSince]
  | counted hcounts hvalid hidle | fired hcounts hvalid hidle => exact hcounts.streakInv hvalid hidle hs
  | s8Init | s8Byte | c16Init | c16Byte | c8Init | c8Byte | notReady | badStart | started | emptied | underrun
  | htSetthr | poweredOn | cleaned | completed => exact hs

end

/-- Settles O57: transition by transition. -/
theorem everyCommandKeepsTheCountOfFailures : Obligations.EveryCommandKeepsTheCountOfFailures := by
  unfold Obligations.EveryCommandKeepsTheCountOfFailures
  exact fun i s t log hs h => (exec_transition h).streakInv hs

/-! ## The good count -/

/-- Settles O31: outside `HT_INIT` only an accepted success writes the count, and it saturates. -/
theorem goodCountOnlyIncreases : Obligations.GoodCountOnlyIncreases := by
  unfold Obligations.GoodCountOnlyIncreases
  intro i s t h hi
  have hkept : t.htGoodCount = s.htGoodCount ∨ (∃ now, i = .htGood now) ∧ s.acceptsReport = true ∧
      t.htGoodCount = satInc s.htGoodCount := by
    cases exec_transition h with
    | byte b h => exact .inl (congrArg State.htGoodCount h.frame :)
    | htInit now => exact absurd rfl (hi now)
    | @counted _ _ u now hcounts hvalid hidle | @fired _ _ u now hcounts hvalid hidle =>
      cases hcounts with
      | good => exact .inr ⟨⟨now, rfl⟩, acceptsReport_of_valid_of_idle hvalid hidle, rfl⟩
      | bad => exact .inl rfl
    | _ => exact .inl rfl
  obtain heq | ⟨hgood, haccepts, heq⟩ := hkept
  · exact ⟨heq ▸ Nat.le_refl _, fun hne => absurd heq hne⟩
  · have hlt := s.htGoodCount.isLt
    have hnat : t.htGoodCount.toNat = min (s.htGoodCount.toNat + 1) (2 ^ 32 - 1) := heq ▸ satInc_toNat _
    refine ⟨by omega, fun hne => ⟨hgood, haccepts, ?_⟩⟩
    have hne' : t.htGoodCount.toNat ≠ s.htGoodCount.toNat := fun h => hne (BitVec.eq_of_toNat_eq h)
    omega

/-! ## The quality flag -/

section
variable {i : Instr} {s t : State} {log : List Bool}

/-- No command takes `HT.valid` back (R35). -/
theorem Transition.htValid_of_htValid (h : Transition i s t) (hvalid : s.htValid = true) : t.htValid = true := by
  cases h with
  | byte b h => exact (congrArg State.htValid h.frame :).trans hvalid
  | counted hcounts | fired hcounts => exact hcounts.htValid_eq.trans hvalid
  | htInit => rfl
  | _ => exact hvalid

/-- The count of failures over any run of commands. -/
theorem runReports_streakInv {is : List Instr} {log' : List Bool} (h : runReports is s log = some (t, log'))
    (hvalid : s.htValid = true) (hs : s.StreakInv log) : t.htValid = true ∧ t.StreakInv log' := by
  induction is generalizing s log with
  | nil =>
    cases h
    exact ⟨hvalid, hs⟩
  | cons i is ih =>
    rw [runReports] at h
    split at h
    · next u hexec =>
      have htrans := exec_transition hexec
      exact ih h (htrans.htValid_of_htValid hvalid) (htrans.streakInv hs)
    · cases h
    · cases h

/-- The last `n` reports are failures when at least `n` failures stand at the head of the log. -/
theorem le_failuresSince_iff (n : Nat) (log : List Bool) :
    n ≤ failuresSince log ↔ n ≤ log.length ∧ ∀ r ∈ log.take n, r = false := by
  induction log generalizing n with
  | nil => simp [failuresSince]
  | cons r log ih =>
    cases n with
    | zero => simp
    | succ n => cases r <;> simp [failuresSince, ih]

end

/-- Settles O32: `HT_INIT` starts the count with no report, and the flag is 0 from a count of 5 on. -/
theorem qualityFlagFalseIffLastFiveReportsFailed : Obligations.QualityFlagFalseIffLastFiveReportsFailed := by
  unfold Obligations.QualityFlagFalseIffLastFiveReportsFailed
  intro now s0 s t is log hidle hinit hrun
  cases (exec_htInit_of_idle hidle).symm.trans hinit
  obtain ⟨hvalid, hcount⟩ := runReports_streakInv hrun rfl fun _ => by simp [failuresSince]
  obtain ⟨hstreak, hflag⟩ := hcount hvalid
  rw [hflag, hstreak, ← le_failuresSince_iff]
  omega

end Sys2Proof.Machine

/-! PROOFS. Answers and frames command by command: the response codes and what goes with them (30_encoding.md section
4), which command writes which register (10_state.md section 1), and the commands that write none (20_memory.md section
3). -/

namespace Sys2Proof.Machine

/-! ## The answers of an attempt -/

/-- A reason for which an attempt fails (R31). -/
abbrev DfResult.IsReason (r : DfResult) : Prop := r ≠ .none ∧ r ≠ .ok

/-- The answers to a command of an attempt in `s`: it goes on, it has succeeded, or it has failed for a reason; an
attempt that drains keeps the reason it has (R144, R147). -/
inductive AttemptAnswer (s t : State) : Prop where
  | pending (hresp : t.resp = some ⟨.pending, 0#32⟩) (hrunning : t.dfPhase ≠ .idle)
  | done (hresp : t.resp = some ⟨.done, 0#32⟩) (hidle : t.dfPhase = .idle) (hresult : t.dfResult = .ok)
      (hvalid : t.rdValid = true)
  | failed (hresp : t.resp = some ⟨.fail, t.dfResult.word⟩) (hidle : t.dfPhase = .idle)
      (hreason : (s.dfPhase = .drain → s.dfResult.IsReason) → t.dfResult.IsReason)

section
variable {i : Instr} {s t : State} {b : Byte}

/-- A failure asks for the bytes to drain, or ends the attempt (R145, R146). -/
theorem AttemptAnswer.afterFailure {u : State} {r : DfResult} (hr : r.IsReason) :
    AttemptAnswer s (u.afterFailure r) := by
  by_cases hleft : 47 - u.dfCnt.toNat = 0
  · exact .failed (by simp [State.afterFailure, hleft, DfResult.word]) (by simp [State.afterFailure, hleft]) fun _ => hr
  · exact .pending (by simp [State.afterFailure, hleft]) (by simp [State.afterFailure, hleft])

theorem ByteStep.attemptAnswer (h : ByteStep b s t) : AttemptAnswer s t := by
  cases h with
  | infoByte hphase | payload _ hphase | drained hphase => exact .pending rfl (by simp [hphase])
  | marker hphase => exact .pending rfl (by obtain hphase | hphase := hphase <;> simp [hphase])
  | infoEnd | payloadEnd | checksum => exact .pending rfl (by simp)
  | deviceFailed | escapeFailed | checksumFailed | endFailed => exact .afterFailure (by decide)
  | success => exact .done rfl rfl rfl rfl
  | drainedLast hphase => exact .failed rfl rfl fun hreason => hreason hphase

/-! ## The response codes -/

/-- The table of R86 for a command `i` that took `s` to `t`. -/
abbrev CodesAsTabled (i : Instr) (s t : State) : Prop :=
  ∃ r, t.resp = some r ∧
    (r.code = .pending → (feedsAttempt i = true ∨ ∃ a p, i = .dfStart a p) ∧ r.val = 0#32 ∧ t.dfPhase ≠ .idle) ∧
    (r.code = .done → (∃ b, i = .dfByte b) ∧ r.val = 0#32 ∧ t.dfPhase = .idle ∧ t.dfResult = .ok ∧ t.rdValid = true) ∧
    (r.code = .fail → (feedsAttempt i = true ∨ ∃ a p, i = .dfStart a p) ∧
      r.val = t.dfResult.val.setWidth 32 ∧ t.dfPhase = .idle) ∧
    (r.code = .busy → r.val = 0#32 ∧ s.rcState ≠ .idle) ∧
    (r.code = .fault → 2 ≤ r.val.toNat ∧ r.val.toNat ≤ 5 ∧ t.sysFault = true) ∧
    (r.code = .ok → feedsAttempt i = false ∧ t.sysFault = s.sysFault)

theorem codesAsTabled_of_ok {v : Word} (hresp : t.resp = some ⟨.ok, v⟩) (hfault : t.sysFault = s.sysFault)
    (hi : feedsAttempt i = false) : CodesAsTabled i s t :=
  ⟨_, hresp, by simp, by simp, by simp, by simp, by simp, fun _ => ⟨hi, hfault⟩⟩

theorem codesAsTabled_of_pending (hresp : t.resp = some ⟨.pending, 0#32⟩) (hrunning : t.dfPhase ≠ .idle)
    (hi : feedsAttempt i = true ∨ ∃ a p, i = .dfStart a p) : CodesAsTabled i s t :=
  ⟨_, hresp, fun _ => ⟨hi, rfl, hrunning⟩, by simp, by simp, by simp, by simp, by simp⟩

theorem codesAsTabled_of_fail (hresp : t.resp = some ⟨.fail, t.dfResult.word⟩) (hidle : t.dfPhase = .idle)
    (hi : feedsAttempt i = true ∨ ∃ a p, i = .dfStart a p) : CodesAsTabled i s t :=
  ⟨_, hresp, by simp, by simp, fun _ => ⟨hi, rfl, hidle⟩, by simp, by simp, by simp⟩

theorem AttemptAnswer.codesAsTabled (h : AttemptAnswer s t) : CodesAsTabled (.dfByte b) s t := by
  cases h with
  | pending hresp hrunning => exact codesAsTabled_of_pending hresp hrunning (.inl rfl)
  | done hresp hidle hresult hvalid =>
    exact ⟨_, hresp, by simp, fun _ => ⟨⟨b, rfl⟩, rfl, hidle, hresult, hvalid⟩, by simp, by simp, by simp, by simp⟩
  | failed hresp hidle => exact codesAsTabled_of_fail hresp hidle (.inl rfl)

/-- ILL_OPCODE is the fault of a word, not of a command (R213). -/
theorem codesAsTabled_raiseFault {c : FaultCode} (hcause : FaultCause i s c) : CodesAsTabled i s (s.raiseFault c) := by
  have hrange : 2 ≤ c.val.toNat ∧ c.val.toNat ≤ 5 := by
    cases c with
    | illOpcode => exact hcause.elim
    | illOperand | dfSequence | htUninit | noReading => decide
  exact ⟨_, rfl, by simp, by simp, by simp, by simp, fun _ => ⟨hrange.1, hrange.2, rfl⟩, by simp⟩

theorem feedsAttempt_of_mayOnlyAnswer (hi : mayOnlyAnswer i = true) : feedsAttempt i = false := by
  cases i with
  | dfByte | dfEmpty => cases hi
  | _ => rfl

theorem Counts.feedsAttempt_eq {u : State} {now : Word} (h : Counts s now i u) : feedsAttempt i = false := by
  cases h <;> rfl

theorem Counts.sysFault_eq {u : State} {now : Word} (h : Counts s now i u) : u.sysFault = s.sysFault :=
  (congrArg State.sysFault h.frame :)

theorem Transition.codesAsTabled (h : Transition i s t) : CodesAsTabled i s t := by
  cases h with
  | faulted c hcause => exact codesAsTabled_raiseFault hcause
  | refused hrefuses =>
    exact ⟨_, rfl, by simp, by simp, by simp, fun _ => ⟨rfl, hrefuses.1⟩, by simp, by simp⟩
  | answered v hi => exact codesAsTabled_of_ok rfl rfl (feedsAttempt_of_mayOnlyAnswer hi)
  | notReady avail peek hidle => exact codesAsTabled_of_fail rfl hidle (.inr ⟨avail, peek, rfl⟩)
  | badStart avail peek | started avail peek => exact codesAsTabled_of_pending rfl (by simp) (.inr ⟨avail, peek, rfl⟩)
  | byte b h => exact h.attemptAnswer.codesAsTabled
  | emptied | underrun => exact codesAsTabled_of_fail rfl rfl (.inl rfl)
  | counted hcounts | fired hcounts => exact codesAsTabled_of_ok rfl hcounts.sysFault_eq hcounts.feedsAttempt_eq
  | s8Init | s8Byte | c16Init | c16Byte | c8Init | c8Byte | htInit | htSetthr | poweredOn | cleaned
  | completed =>
    exact codesAsTabled_of_ok rfl rfl rfl

end

/-- Settles O54: transition by transition. -/
theorem responseCodesAsTheirTableSays : Obligations.ResponseCodesAsTheirTableSays := by
  unfold Obligations.ResponseCodesAsTheirTableSays
  exact fun i s t h => (exec_transition h).codesAsTabled

/-! ## Which command writes which register -/

/-- Settles O52: the next state of each transition names the registers it writes. -/
theorem registersAreWrittenOnlyByTheirCommands : Obligations.RegistersAreWrittenOnlyByTheirCommands := by
  unfold Obligations.RegistersAreWrittenOnlyByTheirCommands
  intro i s t h only
  cases exec_transition h with
  | faulted c hcause => simp [only]
  | refused hrefuses => simp [only, State.afterBusy]
  | answered v hi => simp [only]
  | notReady | badStart | started => simp [only, Instr.mnemonic, State.cleared]
  | byte b h =>
    rw [h.frame]
    simp [only, Instr.mnemonic]
  | counted hcounts | fired hcounts => cases hcounts <;> simp [only, Instr.mnemonic]
  | s8Init | s8Byte | c16Init | c16Byte | c8Init | c8Byte | emptied | underrun | htInit | htSetthr | poweredOn | cleaned
  | completed => simp [only, Instr.mnemonic]

/-! ## The reading commands -/

/-- What a command answers in `s`, and again after its own answer: a value of the registers, whatever the outputs of the
last step are, or a fault, whatever `SYS.fault` is besides. -/
inductive RepeatableAnswer (i : Instr) (s : State) : Prop where
  | value (v : Word) (h : ∀ r evs, exec i { s with resp := r, events := evs } = .next (s.answer .ok v []))
  | fault (c : FaultCode)
      (h : ∀ f r evs, exec i { s with sysFault := f, resp := r, events := evs } = .next (s.raiseFault c))

section
variable {i : Instr} (s : State)

theorem exec_dfRead_repeatable (k : BitVec 4) : RepeatableAnswer (.dfRead k) s := by
  by_cases hk : k.toNat < 10
  · cases hvalid : s.rdValid with
    | true => exact .value s.rd[k.toNat] fun _ _ => by simp [exec, execDfRead, hk, hvalid, State.answer]
    | false => exact .fault .noReading fun _ _ _ => by simp [exec, execDfRead, hk, hvalid, State.raiseFault]
  · exact .fault .illOperand fun _ _ _ => by simp [exec, execDfRead, hk, State.raiseFault]

theorem exec_htQgood_repeatable : RepeatableAnswer .htQgood s := by
  cases hvalid : s.htValid with
  | true =>
    exact .value s.htGoodCount fun r evs => exec_htQgood_of_valid (s := { s with resp := r, events := evs }) hvalid
  | false =>
    exact .fault .htUninit fun f r evs =>
      exec_htQgood_of_uninit (s := { s with sysFault := f, resp := r, events := evs }) hvalid

theorem exec_htQflag_repeatable : RepeatableAnswer .htQflag s := by
  cases hvalid : s.htValid with
  | true =>
    exact .value (if s.htQualityFlag = true then 1#32 else 0#32) fun r evs =>
      exec_htQflag_of_valid (s := { s with resp := r, events := evs }) hvalid
  | false =>
    exact .fault .htUninit fun f r evs =>
      exec_htQflag_of_uninit (s := { s with sysFault := f, resp := r, events := evs }) hvalid

/-- The nine commands of R68. -/
theorem exec_reading_repeatable (hi : i.mnemonic ∈ ["DF_READ", "S8_READ", "C16_READ", "C8_READ", "S8_CHECK", "C8_CHECK",
    "HT_QGOOD", "HT_QFLAG", "SYS_STATUS"]) : RepeatableAnswer i s := by
  cases i with
  | dfRead k => exact exec_dfRead_repeatable s k
  | htQgood => exact exec_htQgood_repeatable s
  | htQflag => exact exec_htQflag_repeatable s
  | sysStatus => exact .value s.statusWord fun _ _ => rfl
  | s8Read => exact .value ((chk8 s.s8Acc).setWidth 32) fun _ _ => rfl
  | s8Check c => exact .value (bit (chk8 s.s8Acc == c)) fun _ _ => rfl
  | c16Read => exact .value (s.c16Acc.setWidth 32) fun _ _ => rfl
  | c8Read => exact .value (s.c8Acc.setWidth 32) fun _ _ => rfl
  | c8Check c => exact .value (bit (s.c8Acc == c)) fun _ _ => rfl
  | _ => simp [Instr.mnemonic] at hi

end

/-- Settles O51: the answer leaves what the command reads as it was. -/
theorem readingCommandsHaveNoSideEffect : Obligations.ReadingCommandsHaveNoSideEffect := by
  unfold Obligations.ReadingCommandsHaveNoSideEffect
  intro i s t h hi
  cases exec_reading_repeatable s hi with
  | value v hrep =>
    cases (hrep s.resp s.events).symm.trans h
    exact ⟨rfl, rfl, .inl rfl, hrep _ _⟩
  | fault c hrep =>
    cases (hrep s.sysFault s.resp s.events).symm.trans h
    exact ⟨rfl, rfl, .inr ⟨rfl, c.val, rfl⟩, hrep _ _ _⟩

end Sys2Proof.Machine

/-! PROOFS. The attempt as a whole: escapes and the count of each byte, the end within 89 commands, and the drain after
a bad start (43_deframer.md sections 1 to 3 and 5). -/

namespace Sys2Proof.Machine

/-! ## Escapes and the count -/

/-- A byte after the marker that the table does not list (R132, R138). -/
theorem State.dfDestuff_of_badEscape {deliver : Byte → State → Out} {s : State} {b : Byte} (hesc : s.dfEsc = true)
    (hb : ∀ v, (b, v) ∉ escapeTable) : s.dfDestuff deliver b = .next (s.afterFailure .badEscape) := by
  have hnone : unstuff b = none :=
    Option.eq_none_iff_forall_ne_some.2 fun v hv => hb v ((unstuff_eq_some b v).1 hv)
  simp [State.dfDestuff, hesc, hnone, State.dfFail_eq]

/-- In both phases that de-stuff, `DF_BYTE` counts the byte and de-stuffs it (R135, R138). -/
theorem exec_dfByte_eq_dfDestuff {s : State} (hphase : s.dfPhase = .data ∨ s.dfPhase = .chk) :
    ∃ deliver : Byte → State → Out,
      ∀ b, exec (.dfByte b) s = { s with dfCnt := s.dfCnt + 1 }.dfDestuff deliver b := by
  obtain hphase | hphase := hphase
  · exact ⟨_, fun _ => exec_dfByte_of_data hphase⟩
  · exact ⟨_, fun _ => exec_dfByte_of_chk hphase⟩

/-- Settles O12: whatever the phase delivers to, the marker and the bad escape do not reach it. -/
theorem dfByteEscapes : Obligations.DfByteEscapes := by
  unfold Obligations.DfByteEscapes
  intro s b hphase
  obtain ⟨deliver, hexec⟩ := exec_dfByte_eq_dfDestuff hphase
  rw [hexec]
  refine ⟨fun hesc hb => ?_, fun hesc hb => ?_⟩
  · rw [hb]
    exact State.dfDestuff_of_marker (s := { s with dfCnt := s.dfCnt + 1 }) hesc
  · exact State.dfDestuff_of_badEscape (s := { s with dfCnt := s.dfCnt + 1 }) hesc hb

/-- In a legal state a running attempt takes every byte. -/
theorem exists_byteStep {s : State} (hs : s.DfInv) (hrunning : s.dfPhase ≠ .idle) (b : Byte) :
    ∃ t, exec (.dfByte b) s = .next t ∧ ByteStep b s t := by
  obtain ⟨t, -, hexec, -⟩ := exec_answered hs.not_idxPastTheCells (.dfByte b)
  exact ⟨t, hexec, .of_exec hrunning hexec⟩

/-- Settles O19: a word of format B, the fault, and the count and the answer of a byte. -/
theorem dfByteCountsTheByte : Obligations.DfByteCountsTheByte := by
  unfold Obligations.DfByteCountsTheByte
  refine ⟨runsAs_of_formatB, fun s b => ⟨fun hidle => ?_, fun hrunning hs => ?_⟩⟩
  · simp [exec, execDfByte, hidle, State.raiseFault_eq_afterFault, FaultCode.val]
  · obtain ⟨t, hexec, hbyte⟩ := exists_byteStep hs hrunning b
    have hcnt : t.dfCnt.toNat = s.dfCnt.toNat + 1 := hbyte.cnt_eq ▸ hs.cnt_succ hrunning
    cases hbyte.attemptAnswer with
    | pending hresp => exact ⟨t, _, hexec, hresp, hcnt, .inl rfl⟩
    | done hresp => exact ⟨t, _, hexec, hresp, hcnt, .inr (.inr rfl)⟩
    | failed hresp => exact ⟨t, _, hexec, hresp, hcnt, .inr (.inl rfl)⟩

/-! ## The end of an attempt -/

/-- The reason kept through a drain is one (R31, R144). -/
theorem State.DfInv.isReason_of_drain {s : State} (hs : s.DfInv) (hphase : s.dfPhase = .drain) :
    s.dfResult.IsReason := by
  obtain ⟨-, -, -, -, -, hdrain, -⟩ := hs
  obtain ⟨-, -, ⟨h, -⟩ | ⟨h | h | h, -⟩⟩ := hdrain hphase <;> rw [h] <;> decide

/-- A command of a running attempt either asks for another, with one byte more consumed, or ends the attempt. -/
theorem exists_attemptAnswer {s : State} {i : Instr} (hs : s.DfInv) (hrunning : s.dfPhase ≠ .idle)
    (hi : feedsAttempt i = true) :
    ∃ t, exec i s = .next t ∧ t.DfInv ∧ AttemptAnswer s t ∧
      (t.dfPhase ≠ .idle → t.dfCnt.toNat = s.dfCnt.toNat + 1) := by
  cases i with
  | dfByte b =>
    obtain ⟨t, hexec, hbyte⟩ := exists_byteStep hs hrunning b
    exact ⟨t, hexec, hbyte.dfInv hs, hbyte.attemptAnswer, fun _ => hbyte.cnt_eq ▸ hs.cnt_succ hrunning⟩
  | dfEmpty =>
    by_cases hdrain : s.dfPhase = .drain
    · exact ⟨_, exec_dfEmpty_of_drain hdrain, (Transition.emptied hdrain).dfInv hs,
        .failed rfl rfl fun hreason => hreason hdrain, by simp⟩
    · exact ⟨_, exec_dfEmpty_of_underrun hrunning hdrain, (Transition.underrun hrunning hdrain).dfInv hs,
        .failed rfl rfl fun _ => (by decide : DfResult.underrun.IsReason), by simp⟩
  | _ => cases hi

/-- A response that ends an attempt in `t`: DONE, or FAIL with a reason. -/
abbrev EndsAttempt (t : State) (r : Response) : Prop :=
  r = ⟨.done, 0#32⟩ ∨ r = ⟨.fail, t.dfResult.val.setWidth 32⟩ ∧ t.dfResult ≠ .none ∧ t.dfResult ≠ .ok

/-- One of the commands `is` ends the attempt of `s`, and those before it are answered PENDING. -/
abbrev EndsWithin (is : List Instr) (s : State) : Prop :=
  ∃ k t r, 1 ≤ k ∧ k ≤ is.length ∧ runAll (is.take k) s = .next t ∧ t.dfPhase = .idle ∧ t.resp = some r ∧
    EndsAttempt t r ∧
    ∀ j, 1 ≤ j → j < k →
      ∃ u, runAll (is.take j) s = .next u ∧ u.resp = some ⟨.pending, 0#32⟩ ∧ u.dfPhase ≠ .idle

section
variable {s t : State} {i : Instr} {is : List Instr}

theorem runAll_take_succ (h : exec i s = .next t) (k : Nat) :
    runAll ((i :: is).take (k + 1)) s = runAll (is.take k) t := by
  simp [runAll, h]

theorem EndsWithin.now {r : Response} (h : exec i s = .next t) (hidle : t.dfPhase = .idle) (hresp : t.resp = some r)
    (hends : EndsAttempt t r) : EndsWithin (i :: is) s :=
  ⟨1, t, r, Nat.le_refl 1, by simp, (runAll_take_succ h 0).trans rfl, hidle, hresp, hends,
    fun j hpos hlt => absurd hlt (Nat.not_lt.2 hpos)⟩

theorem EndsWithin.later (h : exec i s = .next t) (hresp : t.resp = some ⟨.pending, 0#32⟩)
    (hrunning : t.dfPhase ≠ .idle) (hrest : EndsWithin is t) : EndsWithin (i :: is) s := by
  obtain ⟨k, u, r, hpos, hle, hrun, hidle, hr, hends, hbefore⟩ := hrest
  refine ⟨k + 1, u, r, Nat.le_add_left 1 k, Nat.succ_le_succ hle, (runAll_take_succ h k).trans hrun, hidle, hr, hends,
    fun j hj hlt => ?_⟩
  obtain ⟨j, rfl⟩ := Nat.exists_eq_add_of_le' hj
  rw [runAll_take_succ h]
  cases j with
  | zero => exact ⟨t, rfl, hresp, hrunning⟩
  | succ j => exact hbefore (j + 1) (Nat.le_add_left 1 j) (by omega)

/-- The count of the bytes consumed rises with every command of the attempt, and a running one is below 88. -/
theorem endsWithin_of_le_cnt_add_length (hs : s.DfInv) (hrunning : s.dfPhase ≠ .idle)
    (hfeeds : ∀ i ∈ is, feedsAttempt i = true) (hlen : 88 ≤ s.dfCnt.toNat + is.length) : EndsWithin is s := by
  induction is generalizing s with
  | nil =>
    have hle := hs.cnt_le hrunning
    exact absurd hlen (by simp; omega)
  | cons i is ih =>
    obtain ⟨t, hexec, ht, hans, hcnt⟩ := exists_attemptAnswer hs hrunning (hfeeds i List.mem_cons_self)
    cases hans with
    | pending hresp hgoes =>
      refine .later hexec hresp hgoes (ih ht hgoes (fun j hj => hfeeds j (List.mem_cons_of_mem i hj)) ?_)
      rw [hcnt hgoes]
      rw [List.length_cons] at hlen
      omega
    | done hresp hidle => exact .now hexec hidle hresp (.inl rfl)
    | failed hresp hidle hreason => exact .now hexec hidle hresp (.inr ⟨rfl, hreason hs.isReason_of_drain⟩)

end

/-- Settles O20: 89 commands are one more than the count can bear. -/
theorem attemptEndsWithin89Commands : Obligations.AttemptEndsWithin89Commands := by
  unfold Obligations.AttemptEndsWithin89Commands
  intro s is hs hrunning hfeeds hlen
  have hends : EndsWithin is s := endsWithin_of_le_cnt_add_length hs hrunning hfeeds (by omega)
  rwa [EndsWithin, hlen] at hends

/-! ## The drain after a bad start -/

/-- From `s` to `t` a drain has ended: the attempt is answered FAIL with the reason it had, and the frame buffer and the
Reading are as they were. -/
structure DrainEnded (s t : State) : Prop where
  resp : t.resp = some ⟨.fail, s.dfResult.word⟩
  phase : t.dfPhase = .idle
  rd : t.rd = s.rd
  rdValid : t.rdValid = s.rdValid
  buf : t.buf = s.buf

/-- The loop feeds a drain until its count or the Channel is exhausted (R144, R147, R153). -/
theorem feedChannel_of_drain {s : State} (hphase : s.dfPhase = .drain) (hw : s.wantsByte = true)
    (hpos : 1 ≤ s.dfDrain.toNat) (ch : List Byte) (n : Nat) :
    ∃ t, feedChannel ch n s = (.next t, n + min ch.length s.dfDrain.toNat) ∧ DrainEnded s t := by
  induction ch generalizing s n with
  | nil =>
    refine ⟨{ s with dfDrain := 0#6, dfPhase := .idle }.answer .fail s.dfResult.word [], ?_, rfl, rfl, rfl, rfl, rfl⟩
    simp [feedChannel, hw, exec_dfEmpty_of_drain hphase]
  | cons c ch ih =>
    have hexec := exec_dfByte_of_drain (b := c) hphase
    obtain ⟨hlast, heq⟩ | ⟨hleft, heq⟩ := State.dfDrop_cases { s with dfCnt := s.dfCnt + 1 }
    · have hone : s.dfDrain.toNat = 1 := by simp only at hlast; bv_omega
      refine ⟨{ s with dfCnt := s.dfCnt + 1, dfDrain := s.dfDrain - 1, dfPhase := .idle }.answer .fail
        s.dfResult.word [], ?_, rfl, rfl, rfl, rfl, rfl⟩
      rw [feedChannel, if_pos hw, hexec, heq]
      simp [feedChannel_of_answered (s := State.answer _ .fail _ _) rfl, hone]
    · have hrest : (s.dfDrain - 1).toNat = s.dfDrain.toNat - 1 := by bv_omega
      have hpos' : 1 ≤ (s.dfDrain - 1).toNat := by simp only at hleft; bv_omega
      obtain ⟨t, hfeed, ht⟩ := ih
        (s := { s with dfCnt := s.dfCnt + 1, dfDrain := s.dfDrain - 1 }.answer .pending 0#32 []) hphase rfl hpos'
        (n + 1)
      refine ⟨t, ?_, ht.resp, ht.phase, ht.rd, ht.rdValid, ht.buf⟩
      rw [feedChannel, if_pos hw, hexec, heq]
      refine hfeed.trans ?_
      simp only [State.answer_dfDrain, hrest, List.length_cons]
      congr 1
      omega

/-- Settles O23: the start puts 60 bytes to drain, and the loop drains what there is of them. -/
theorem badStartDrainsUpTo60Bytes : Obligations.BadStartDrainsUpTo60Bytes := by
  unfold Obligations.BadStartDrainsUpTo60Bytes
  intro s c ch hidle hc
  have havail : availOf (c :: ch).length ≠ 0#16 := by
    simp only [availOf, List.length_cons, ne_eq, ← BitVec.toNat_inj, BitVec.toNat_ofNat]
    omega
  obtain ⟨t, hfeed, ht⟩ := feedChannel_of_drain
    (s := { s.cleared with dfResult := .badStart, dfDrain := 60#6, dfPhase := .drain }.answer .pending 0#32
      [.tx reqFrame]) rfl rfl (by simp) (c :: ch) 0
  refine ⟨t, ?_, ht.resp, ht.phase, ht.rd, ht.rdValid, ht.buf⟩
  rw [attempt, List.headD_cons, exec_dfStart_of_badStart hidle havail hc]
  simpa using hfeed

end Sys2Proof.Machine

/-! PROOFS. The encoder against the decoder and the table (30_encoding.md), and the state after reset
(70_reset_and_hazards.md section 1). -/

namespace Sys2Proof

open Sys2Proof.Machine

/-! ## Decoding what the encoder writes -/

/-- The operand of format B is legal (R81). -/
@[simp] theorem operand_byteArg (b : Byte) (i : Instr) : operand .B (byteArg b) i = .ok i :=
  operand_eq_ok.2 ⟨beq_iff_eq.2 (Laws.byteArg_masked b), rfl⟩

@[simp] theorem operand_startArg (avail : BitVec 16) (peek : Byte) (i : Instr) :
    operand .S (startArg avail peek) i = .ok i :=
  operand_eq_ok.2 ⟨beq_iff_eq.2 (Laws.startArg_masked avail peek), rfl⟩

@[simp] theorem operand_formatT (arg : Word) (i : Instr) : operand .T arg i = .ok i :=
  operand_eq_ok.2 ⟨zeroBitsClear_T arg, rfl⟩

@[simp] theorem operand_indexArg (k : BitVec 4) (i : Instr) : operand .I (indexArg k) i = .ok i :=
  operand_eq_ok.2 ⟨beq_iff_eq.2 (Laws.indexArg_masked k), rfl⟩

/-- The decoder reads back every operand of every command a word can spell. -/
theorem decode_encode {i : Instr} (hi : i.wellFormed = true) : decode (encode i) = .ok i := by
  cases i with
  | sysStatus | s8Init | s8Read | c16Init | c16Read | c8Init | c8Read | dfEmpty | htQgood | htQflag => rfl
  | s8Byte b | s8Check b | c16Byte b | c8Byte b | c8Check b | dfByte b =>
    simp [decode, encode, Instr.opcode, Instr.arg]
  | dfStart avail peek => simp [decode, encode, Instr.opcode, Instr.arg]
  | dfRead k =>
    have hk : k.toNat ≤ 9 := by simpa [Instr.wellFormed] using hi
    simp [decode, encode, Instr.opcode, Instr.arg, indexOperand, hk]
  | htInit now | htGood now | htBad now | htSetthr now | rcTick now =>
    simp [decode, encode, Instr.opcode, Instr.arg]

/-- What a word decodes to can be spelled: only `DF_READ` has a check, and the decoder makes it (R85). -/
theorem wellFormed_of_decode_eq_ok {w : CommandWord} {i : Instr} (h : decode w = .ok i) : i.wellFormed = true := by
  cases i with
  | dfRead k => exact decide_eq_true (index_le_nine_of_decode_eq_ok h)
  | _ => rfl

/-! ## The table -/

/-- No two rows share their opcode (R83). -/
theorem row_eq_of_opOf_eq : ∀ r ∈ opcodeTable, ∀ r' ∈ opcodeTable, opOf r.pattern = opOf r'.pattern → r = r' := by
  decide

/-- So a word selects at most one row. -/
theorem row_eq_of_selects {w : CommandWord} {r r' : TableRow} (hr : r ∈ opcodeTable) (hr' : r' ∈ opcodeTable)
    (hsel : r.selects w = true) (hsel' : r'.selects w = true) : r = r' := by
  obtain ⟨hop, -⟩ := (TableRow.selects_iff hr w).1 hsel
  obtain ⟨hop', -⟩ := (TableRow.selects_iff hr' w).1 hsel'
  exact row_eq_of_opOf_eq r hr r' hr' (hop.symm.trans hop')

/-- A row with the opcode of a command has its mnemonic (R83, R91). -/
theorem mnemonic_eq_of_opcode_eq (i : Instr) :
    ∀ r ∈ opcodeTable, opOf r.pattern = i.opcode → r.mnemonic = i.mnemonic := by
  cases i <;> simp only [Instr.opcode, Instr.mnemonic] <;> decide

/-- The row of `DF_READ`, the one whose operand has a check beyond its zero bits. -/
theorem mnemonic_of_dfRead_opcode : ∀ r ∈ opcodeTable, opOf r.pattern = 0x43#8 → r.mnemonic = "DF_READ" :=
  mnemonic_eq_of_opcode_eq (.dfRead 0#4)

/-- A word that selects a row decodes to the row's command, or is `DF_READ` with an index above 9. -/
theorem decode_of_selects {w : CommandWord} {r : TableRow} (hr : r ∈ opcodeTable) (hsel : r.selects w = true) :
    (∃ i : Instr, decode w = .ok i ∧ i.mnemonic = r.mnemonic ∧ i.wellFormed = true) ∨
    (r.mnemonic = "DF_READ" ∧ 9 < (w.extractLsb' 0 4).toNat ∧ decode w = .error .illOperand) := by
  obtain ⟨hop, -⟩ := (TableRow.selects_iff hr w).1 hsel
  cases hw : decode w with
  | ok i =>
    have hopcode : opOf r.pattern = i.opcode := by
      rw [← hop, ← encode_of_decode_eq_ok hw]
      exact opOf_append _ _
    exact .inl ⟨i, rfl, (mnemonic_eq_of_opcode_eq i r hr hopcode).symm, wellFormed_of_decode_eq_ok hw⟩
  | error c =>
    obtain ⟨-, hnone⟩ | ⟨rfl, -, hnone | ⟨hread, hindex⟩⟩ := decode_eq_error_cases hw
    · exact absurd hop.symm (hnone r hr)
    · exact absurd hsel (Bool.eq_false_iff.1 (hnone r hr))
    · exact .inr ⟨mnemonic_of_dfRead_opcode r hr (hop.symm.trans hread), argIndex_argOf w ▸ hindex, rfl⟩

end Sys2Proof

namespace Sys2Proof.Machine

/-- Settles O37: command by command, each operand read back by its format. -/
theorem decodeOfEncodeIsTheInstruction : Obligations.DecodeOfEncodeIsTheInstruction := by
  unfold Obligations.DecodeOfEncodeIsTheInstruction
  exact fun i hi => decode_encode hi

/-- Settles O38: the check of the index, and the encoder as the decoder's only source. -/
theorem encodeOfDecodeIsTheWord : Obligations.EncodeOfDecodeIsTheWord := by
  unfold Obligations.EncodeOfDecodeIsTheWord
  exact fun w i h => ⟨wellFormed_of_decode_eq_ok h, encode_of_decode_eq_ok h⟩

/-- Settles O39: the rows' opcodes differ; a selected row is the decoded command's; without one the opcode decides. -/
theorem decodeFollowsTheTable : Obligations.DecodeFollowsTheTable := by
  unfold Obligations.DecodeFollowsTheTable
  refine fun w => ⟨fun r hr r' hr' => row_eq_of_selects hr hr', fun r hr => decode_of_selects hr,
    fun hnone => ⟨fun hop => ?_, fun hop => ?_⟩⟩
  · exact decode_of_opOf_notMem fun hmem =>
      have ⟨r, hr, heq⟩ := opOf_mem_rowOpcodes.1 hmem
      hop r hr heq
  · exact decode_of_opOf_mem (opOf_mem_rowOpcodes.2 hop) (decode_ne_ok_of_selects_eq_false hnone)

/-- Settles O40: the eight legal words and the two illegal ones, each evaluated by the decoder. -/
theorem sampleWordsDecodeAsTheSpecWritesThem : Obligations.SampleWordsDecodeAsTheSpecWritesThem := by
  unfold Obligations.SampleWordsDecodeAsTheSpecWritesThem
  decide

/-- Settles O41: the word leaves the port, and the decoder names the command. -/
theorem stepRunsTheDecodedCommand : Obligations.StepRunsTheDecodedCommand := by
  unfold Obligations.StepRunsTheDecodedCommand
  exact fun s w rest i hport hw => step_of_decode_eq_ok hport hw

/-! ## Reset -/

/-- Settles O45: the columns of R240 that give a value. -/
theorem resetValuesAsTheSpecGivesThem : Obligations.ResetValuesAsTheSpecGivesThem := by
  unfold Obligations.ResetValuesAsTheSpecGivesThem
  decide

/-- After reset no attempt runs, no byte is consumed and nothing is left to drain. -/
theorem reset_dfInv : State.reset.DfInv :=
  dfInv_of_idle rfl rfl (Nat.zero_le _) rfl nofun

/-- Nor does the health state exist or a recovery run. -/
theorem reset_htInv : State.reset.HtInv :=
  ⟨nofun, fun hbusy => absurd rfl hbusy, nofun⟩

theorem reset_inv : State.reset.Inv :=
  ⟨reset_buf_wf, reset_dfInv, reset_htInv⟩

/-- Settles O44: with no attempt `DF.sum` covers nothing, and without `HT_INIT` nothing is counted. -/
theorem resetStateIsLegal : Obligations.ResetStateIsLegal := by
  unfold Obligations.ResetStateIsLegal
  exact ⟨reset_inv, sumInv_of_idle_or_drain (.inl rfl), nofun⟩

/-- Settles O46: the reset input gives the state after reset but for the host's words, which no invariant reads. -/
theorem resetInputAbandonsWhatRuns : Obligations.ResetInputAbandonsWhatRuns := by
  unfold Obligations.ResetInputAbandonsWhatRuns
  exact fun s => ⟨resetValuesAsTheSpecGivesThem.1, reset_inv, rfl, rfl, rfl⟩

end Sys2Proof.Machine

/-! PROOFS. Whole messages through the two CRC units: a message followed by its checksum (41_crc16.md section 1,
42_crc8.md sections 1 and 2). -/

namespace Sys2Proof.Machine

/-! ## CRC-16 -/

/-- `C16_MSG` leaves the message's CRC and the answer of its last command (R90, R110). -/
theorem runAll_c16Msg (m : List Byte) (s : State) :
    runAll (c16Msg m) s = .next ({ s with c16Acc := crc16 m }.answer .ok 0#32 []) := by
  rw [c16Msg, runAll, exec_c16Init]
  exact runAll_map_eq_foldl (st := fun a => { s with c16Acc := a }.answer .ok 0#32 [])
    (fun _ b => exec_c16Byte _ b) m 0xFFFF#16

/-- Shifting out zeros is division: no constant is exclusive-ored in. -/
theorem repeat_crc16ShiftNat_mul (n h : Nat) : Nat.repeat crc16ShiftNat n (h * 2 ^ n) = h := by
  induction n generalizing h with
  | zero => exact Nat.mul_one h
  | succ n ih =>
    have hsplit : h * 2 ^ (n + 1) = h * 2 * 2 ^ n := by rw [Nat.pow_succ, Nat.mul_comm (2 ^ n), Nat.mul_assoc]
    rw [Nat.repeat, hsplit, ih, crc16ShiftNat, if_neg (by omega), Nat.mul_div_cancel _ (by decide)]

/-- Exclusive-oring its own low byte in leaves a register its high byte, at the top. -/
theorem xor_lowByte_toNat (acc : BitVec 16) :
    acc.toNat ^^^ (acc.extractLsb' 0 8).toNat = (acc.extractLsb' 8 8).toNat * 2 ^ 8 := by
  have hbits : acc ^^^ (acc.extractLsb' 0 8).setWidth 16 = (acc.extractLsb' 8 8).setWidth 16 <<< 8 := by
    ext i hi
    by_cases hlow : i < 8
    · simp [hlow, BitVec.getLsbD_eq_getElem hi]
    · have hpos : 8 + (i - 8) = i := by omega
      simp [hlow, hpos, BitVec.getLsbD_eq_getElem hi]
      omega
  have hnat := congrArg BitVec.toNat hbits
  have hhigh := (acc.extractLsb' 8 8).isLt
  rw [BitVec.toNat_xor, BitVec.toNat_shiftLeft, BitVec.toNat_setWidth_of_le (by decide),
    BitVec.toNat_setWidth_of_le (by decide), Nat.shiftLeft_eq, Nat.mod_eq_of_lt (by omega)] at hnat
  exact hnat

/-- Folding the low byte in moves the high byte down (R110). -/
theorem crc16Step_lowByte (acc : BitVec 16) :
    crc16Step acc (acc.extractLsb' 0 8) = (acc.extractLsb' 8 8).setWidth 16 := by
  apply BitVec.eq_of_toNat_eq
  rw [crc16Step_toNat, xor_lowByte_toNat, repeat_crc16ShiftNat_mul, BitVec.toNat_setWidth_of_le (by decide)]

/-- Folding in the byte that is all the register holds leaves zero. -/
theorem crc16Step_self (b : Byte) : crc16Step (b.setWidth 16) b = 0x0000#16 := by
  apply BitVec.eq_of_toNat_eq
  rw [crc16Step_toNat, BitVec.toNat_setWidth_of_le (by decide), Nat.xor_self]
  exact repeat_crc16ShiftNat_mul 8 0

/-- A message followed by its CRC, low byte first, has CRC zero. -/
theorem crc16_append_crc16 (m : List Byte) :
    crc16 (m ++ [(crc16 m).extractLsb' 0 8, (crc16 m).extractLsb' 8 8]) = 0x0000#16 := by
  have hfold : ∀ lo hi, crc16 (m ++ [lo, hi]) = crc16Step (crc16Step (crc16 m) lo) hi := by simp [crc16]
  rw [hfold, crc16Step_lowByte, crc16Step_self]

/-- Settles O8: the low byte moves the high byte down, and the high byte cancels it. -/
theorem c16MessageThenItsCrcLeavesZero : Obligations.C16MessageThenItsCrcLeavesZero := by
  unfold Obligations.C16MessageThenItsCrcLeavesZero
  intro m s
  refine ⟨_, _, runAll_c16Msg m s, rfl, runAll_c16Msg _ s, ?_⟩
  rw [State.answer_c16Acc, crc16_append_crc16]
  rfl

/-! ## CRC-8 -/

/-- `C8_MSG`, likewise (R90, R120). -/
theorem runAll_c8Msg (m : List Byte) (s : State) :
    runAll (c8Msg m) s = .next ({ s with c8Acc := crc8 m }.answer .ok 0#32 []) := by
  rw [c8Msg, runAll, exec_c8Init]
  exact runAll_map_eq_foldl (st := fun a => { s with c8Acc := a }.answer .ok 0#32 [])
    (fun _ b => exec_c8Byte _ b) m 0xFF#8

theorem crc8_append_singleton (m : List Byte) (c : Byte) : crc8 (m ++ [c]) = crc8Step (crc8 m) c := by
  simp [crc8]

/-- Settles O9: only the byte that the register holds brings it to zero, and that is the byte the check accepts. -/
theorem c8MessageThenOnlyItsCrcLeavesZero : Obligations.C8MessageThenOnlyItsCrcLeavesZero := by
  unfold Obligations.C8MessageThenOnlyItsCrcLeavesZero
  intro m s c
  refine ⟨_, _, runAll_c8Msg m s, runAll_c8Msg _ s, ?_⟩
  rw [State.answer_c8Acc, crc8_append_singleton, crc8Step_eq_zero_iff, exec_c8Check]
  by_cases hmatch : crc8 m = c <;> simp [hmatch, State.answer]

end Sys2Proof.Machine

/-! PROOFS. A whole recovery, from the failure report that fires to the tick that ends it (45_recovery.md sections 1 and
2). -/

namespace Sys2Proof.Machine

/-- From `s` to `t` the sequence has entered the wait `w` at `now` with the events `evs`; the health registers but the
age timer are as they were. -/
structure WaitEntered (w : RcState) (now : Word) (evs : List Event) (s t : State) : Prop where
  state : t.rcState = w
  t0 : t.rcT0 = now
  events : t.events = evs
  valid : t.htValid = s.htValid
  flag : t.htQualityFlag = s.htQualityFlag
  streak : t.htBadStreak = s.htBadStreak
  count : t.htGoodCount = s.htGoodCount

/-- From `s` to `t` the sequence has ended at `now`, silently (R196). -/
structure RecoveryEnded (now : Word) (s t : State) : Prop where
  events : t.events = []
  state : t.rcState = .idle
  lastGood : t.htLastGood = now
  flag : t.htQualityFlag = s.htQualityFlag
  streak : t.htBadStreak = s.htBadStreak
  count : t.htGoodCount = s.htGoodCount

section
variable {p : Config.Params} {s : State} {now : Word}

/-- While a recovery runs both reports are refused (R180). -/
theorem reports_refused (hvalid : s.htValid = true) (hbusy : s.rcState ≠ .idle) (n : Word) :
    exec (.htGood n) s = .next s.afterBusy ∧ exec (.htBad n) s = .next s.afterBusy :=
  ⟨exec_of_refuses ⟨hbusy, .inr ⟨hvalid, .inl ⟨n, rfl⟩⟩⟩, exec_of_refuses ⟨hbusy, .inr ⟨hvalid, .inr ⟨n, rfl⟩⟩⟩⟩

/-- A failure report whose age has reached the threshold starts the sequence (R174, R175, R191). -/
theorem htBad_starts (hvalid : s.htValid = true) (hidle : s.rcState = .idle)
    (hage : s.htResetThreshold.toNat ≤ elapsedNat now s.htLastGood) :
    ∃ t, exec (.htBad now) s = .next t ∧ WaitEntered .offWait now [.trigger, .pwrOff] s.countBad t := by
  obtain ⟨-, -, hcounted⟩ := report_of_guards (execHtBad_cases now s)
  exact ⟨_, (hcounted hvalid hidle).trans (State.ageCheck_of_le hage), rfl, rfl, rfl, rfl, rfl, rfl, rfl⟩

/-- The power-on request after `T_OFF_MS` (R194). -/
theorem rcTick_powersOn (hstate : s.rcState = .offWait) (hwait : p.tOff.toNat ≤ elapsedNat now s.rcT0) :
    ∃ t, s.rcTick p now = .next t ∧ WaitEntered .onWait now [.pwrOn] s t :=
  ⟨_, (State.rcTick_of_offWait hstate).trans (if_pos hwait), rfl, rfl, rfl, rfl, rfl, rfl, rfl⟩

/-- After `T_ON_MS` the fan-clean request, where `HAS_CLEAN` is set (R195). -/
theorem rcTick_cleans (hstate : s.rcState = .onWait) (hwait : p.tOn.toNat ≤ elapsedNat now s.rcT0)
    (hopt : p.hasClean = true) : ∃ t, s.rcTick p now = .next t ∧ WaitEntered .cleanWait now [.fanClean] s t :=
  ⟨_, (State.rcTick_of_onWait hstate).trans ((if_pos hwait).trans (if_pos hopt)), rfl, rfl, rfl, rfl, rfl, rfl, rfl⟩

/-- Where it is not, the end (R195, R196). -/
theorem rcTick_ends_of_onWait (hstate : s.rcState = .onWait) (hwait : p.tOn.toNat ≤ elapsedNat now s.rcT0)
    (hopt : p.hasClean = false) : ∃ t, s.rcTick p now = .next t ∧ RecoveryEnded now s t :=
  ⟨_, (State.rcTick_of_onWait hstate).trans ((if_pos hwait).trans (if_neg (by simp [hopt]))), rfl, rfl, rfl, rfl, rfl,
    rfl⟩

/-- After `T_CLEAN_MS` the end (R197). -/
theorem rcTick_ends_of_cleanWait (hstate : s.rcState = .cleanWait) (hwait : p.tClean.toNat ≤ elapsedNat now s.rcT0) :
    ∃ t, s.rcTick p now = .next t ∧ RecoveryEnded now s t :=
  ⟨_, (State.rcTick_of_cleanWait hstate).trans (if_pos hwait), rfl, rfl, rfl, rfl, rfl, rfl⟩

end

/-- Settles O35: the report that fires, then one tick past the delay of each wait. -/
theorem recoveryGivesItsEventsInOrder : Obligations.RecoveryGivesItsEventsInOrder := by
  unfold Obligations.RecoveryGivesItsEventsInOrder
  intro p s n0 n1 n2 n3 n hvalid hidle hage hoff hon hclean
  obtain ⟨s1, hexec1, h1⟩ := htBad_starts hvalid hidle hage
  obtain ⟨s2, htick2, h2⟩ := rcTick_powersOn (s := s1) h1.state (h1.t0.symm ▸ hoff)
  have hvalid1 : s1.htValid = true := h1.valid.trans hvalid
  have hvalid2 : s2.htValid = true := h2.valid.trans hvalid1
  have hcount2 : s2.htGoodCount = s.htGoodCount := h2.count.trans h1.count
  obtain ⟨hgood1, hbad1⟩ := reports_refused hvalid1 (by simp [h1.state]) n
  obtain ⟨hgood2, hbad2⟩ := reports_refused hvalid2 (by simp [h2.state]) n
  have hwait2 : p.tOn.toNat ≤ elapsedNat n2 s2.rcT0 := h2.t0.symm ▸ hon
  cases hopt : p.hasClean with
  | true =>
    obtain ⟨s3, htick3, h3⟩ := rcTick_cleans h2.state hwait2 hopt
    obtain ⟨hgood3, hbad3⟩ := reports_refused (h3.valid.trans hvalid2) (by simp [h3.state]) n
    obtain ⟨s4, htick4, h4⟩ := rcTick_ends_of_cleanWait (s := s3) h3.state (h3.t0.symm ▸ hclean)
    refine ⟨s1, s2, s3, hexec1, h1.events, hgood1, hbad1, htick2, h2.events, hgood2, hbad2, htick3,
      fun _ => ⟨h3.events, hgood3, hbad3, s4, htick4, h4.events, h4.state, h4.lastGood, ?_, ?_, ?_⟩, by simp⟩
    · exact h4.flag.trans (h3.flag.trans h2.flag)
    · exact h4.streak.trans (h3.streak.trans h2.streak)
    · exact h4.count.trans (h3.count.trans hcount2)
  | false =>
    obtain ⟨s3, htick3, h3⟩ := rcTick_ends_of_onWait h2.state hwait2 hopt
    exact ⟨s1, s2, s3, hexec1, h1.events, hgood1, hbad1, htick2, h2.events, hgood2, hbad2, htick3, by simp,
      fun _ => ⟨h3.events, h3.state, h3.lastGood, h3.flag.trans h2.flag, h3.streak.trans h2.streak,
        h3.count.trans hcount2⟩⟩

end Sys2Proof.Machine

/-! PROOFS. Registers that hold no value are never observed (10_state.md section 9): agreeing states are taken by every
command to agreeing outcomes, unit by unit, and so by every run. -/

namespace Sys2Proof.Machine

section
variable {s t : State}

/-! ## Agreement after the shared operations -/

theorem State.Agree.answer (h : s.Agree t) (code : RespCode) (v : Word) (evs : List Event) :
    (s.answer code v evs).Agree (t.answer code v evs) :=
  { h with resp := rfl, events := rfl }

theorem agreeOut_answer {code : RespCode} {v : Word} {evs : List Event} (h : s.Agree t) :
    AgreeOut (.next (s.answer code v evs)) (.next (t.answer code v evs)) :=
  h.answer code v evs

theorem State.Agree.raiseFault (h : s.Agree t) (c : FaultCode) : (s.raiseFault c).Agree (t.raiseFault c) :=
  { h with sysFault := rfl, resp := rfl, events := rfl }

theorem State.Agree.takePort (h : s.Agree t) (rest : List CommandWord) :
    { s with cmdIn := rest }.Agree { t with cmdIn := rest } :=
  { h with cmdIn := rfl }

theorem State.Agree.rcBusy (h : s.Agree t) : s.rcBusy = t.rcBusy := by
  rw [State.rcBusy, State.rcBusy, h.rcState]

/-- The status word shows no register that may hold no value (R206). -/
theorem State.Agree.statusWord (h : s.Agree t) : s.statusWord = t.statusWord := by
  simp only [State.statusWord, h.sysFault, h.htValid, h.rdValid, h.rcBusy, h.dfPhase, h.dfResult, h.rcState]

/-- A failed attempt drains or has ended, so nothing it took is read again (R145). -/
theorem State.Agree.afterFailure (h : s.Agree t) (r : DfResult) : (s.afterFailure r).Agree (t.afterFailure r) := by
  have hphase := s.afterFailure_dfPhase r
  exact { h with
    dfEsc := rfl
    dfResult := rfl
    events := rfl
    dfPhase := by simp only [State.afterFailure, h.dfCnt]
    dfDrain := by simp only [State.afterFailure, h.dfCnt]
    resp := by simp only [State.afterFailure, h.dfCnt]
    dfInfo := fun hinfo => by simp [hinfo] at hphase
    bufData := fun hdata => by simp [hdata] at hphase
    bufFull := fun hfull => by obtain hfull | hfull := hfull <;> simp [hfull] at hphase }

/-! ## The deframer -/

/-- Every byte is counted (R135). -/
theorem State.Agree.counted (h : s.Agree t) :
    { s with dfCnt := s.dfCnt + 1 }.Agree { t with dfCnt := t.dfCnt + 1 } :=
  { h with dfCnt := congrArg (· + 1) h.dfCnt }

/-- A phase that reads nothing of what an attempt took: no attempt, or a drain. -/
theorem State.Agree.leave (h : s.Agree t) {p : Phase} (hp : p = .idle ∨ p = .drain) :
    { s with dfPhase := p }.Agree { t with dfPhase := p } :=
  { h with
    dfPhase := rfl
    dfInfo := by obtain rfl | rfl := hp <;> simp
    bufData := by obtain rfl | rfl := hp <;> simp
    bufFull := by obtain rfl | rfl := hp <;> simp }

/-- De-stuffing leaves the escape state when it delivers (R138). -/
theorem State.Agree.unescaped (h : s.Agree t) : { s with dfEsc := false }.Agree { t with dfEsc := false } :=
  { h with dfEsc := rfl }

/-- The info registers that the attempt has written, one more with each byte (R136). -/
theorem State.Agree.getElem_set (h : s.Agree t) (hphase : s.dfPhase = .info) (b : Byte) {k : Nat} (hk : k < 5)
    (hs : s.dfIdx.toNat < 5) (ht : t.dfIdx.toNat < 5) (hle : k < s.dfIdx.toNat + 1) :
    (s.dfInfo.set s.dfIdx.toNat b hs)[k] = (t.dfInfo.set t.dfIdx.toNat b ht)[k] := by
  have hidx : s.dfIdx.toNat = t.dfIdx.toNat := congrArg BitVec.toNat h.dfIdx
  obtain rfl | hlt := Nat.eq_or_lt_of_le (Nat.le_of_lt_succ hle)
  · simp [hidx]
  · rw [Vector.getElem_set_ne _ _ (by omega), Vector.getElem_set_ne _ _ (by omega)]
    exact h.dfInfo hphase k hk hlt

theorem State.Agree.dfStoreInfo (h : s.Agree t) (hphase : s.dfPhase = .info) (b : Byte) (hs : s.dfIdx.toNat < 5)
    (ht : t.dfIdx.toNat < 5) : (s.dfStoreInfo s.dfIdx.toNat hs b).Agree (t.dfStoreInfo t.dfIdx.toNat ht b) :=
  { h with
    dfSum := by simp only [State.dfStoreInfo, h.dfIdx, h.dfSum]
    dfInfo := fun _ _ hk hlt => h.getElem_set hphase b hk hs ht (Nat.lt_succ_of_lt hlt) }

/-- The device-state test reads an info byte that the attempt has written (R137). -/
theorem State.Agree.dfDeviceTest (h : s.Agree t) (hdev : s.dfInfo[3] = t.dfInfo[3]) :
    AgreeOut s.dfDeviceTest t.dfDeviceTest := by
  unfold State.dfDeviceTest
  rw [hdev]
  split
  · rw [State.dfFail_eq, State.dfFail_eq]
    exact h.afterFailure _
  · exact agreeOut_answer
      { h with
        dfPhase := rfl
        dfIdx := rfl
        dfInfo := by simp
        bufData := fun _ _ hk => absurd hk (Nat.not_lt_zero _)
        bufFull := by simp }

theorem State.Agree.dfInfoByte (h : s.Agree t) (hphase : s.dfPhase = .info) (b : Byte) :
    AgreeOut (s.dfInfoByte b) (t.dfInfoByte b) := by
  have hidx : s.dfIdx.toNat = t.dfIdx.toNat := congrArg BitVec.toNat h.dfIdx
  unfold State.dfInfoByte
  by_cases h5 : s.dfIdx.toNat < 5
  · have h5' : t.dfIdx.toNat < 5 := hidx ▸ h5
    rw [dif_pos h5, dif_pos h5']
    dsimp only
    by_cases h4 : s.dfIdx.toNat < 4
    · rw [if_pos h4, if_pos (hidx ▸ h4)]
      exact agreeOut_answer
        { h.dfStoreInfo hphase b h5 h5' with
          dfIdx := congrArg (· + 1) h.dfIdx
          dfInfo := fun _ _ hk hlt => h.getElem_set hphase b hk h5 h5' (by simp only at hlt; bv_omega)
          bufData := by simp [hphase] }
    · rw [if_neg h4, if_neg (hidx ▸ h4)]
      exact (h.dfStoreInfo hphase b h5 h5').dfDeviceTest
        (h.getElem_set hphase b (by decide) h5 h5' (by omega))
  · rw [dif_neg h5, dif_neg (hidx ▸ h5)]
    rfl

/-- De-stuffing reads `DF.esc` and the byte. -/
theorem State.Agree.dfDestuff {deliver : Byte → State → Out} (h : s.Agree t)
    (hdel : ∀ v, AgreeOut (deliver v { s with dfEsc := false }) (deliver v { t with dfEsc := false })) (b : Byte) :
    AgreeOut (s.dfDestuff deliver b) (t.dfDestuff deliver b) := by
  obtain ⟨hesc, hnone, hs⟩ | ⟨hesc, rfl, hs⟩ | ⟨v, hv, hs⟩ := s.dfDestuff_cases deliver b <;> rw [hs]
  · have ht : t.dfDestuff deliver b = t.dfFail .badEscape := by simp [State.dfDestuff, ← h.dfEsc, hesc, hnone]
    rw [ht, State.dfFail_eq, State.dfFail_eq]
    exact h.afterFailure _
  · rw [State.dfDestuff_of_marker (h.dfEsc.symm.trans hesc)]
    exact agreeOut_answer { h with dfEsc := rfl }
  · have hv' : t.Delivers b v := by rwa [State.Delivers, ← h.dfEsc]
    rw [State.dfDestuff_of_delivers hv']
    exact hdel v

/-- The cells that the attempt has written, one more with each value (R139). -/
theorem State.Agree.read_write (h : s.Agree t) (hphase : s.dfPhase = .data) (hs : s.buf.wf = true)
    (ht : t.buf.wf = true) (v : Byte) {k : Nat} (hk : k ≤ s.dfIdx.toNat) :
    (s.buf.write s.dfIdx.toNat v).read k = (t.buf.write t.dfIdx.toNat v).read k := by
  rw [← h.dfIdx]
  obtain rfl | hlt := Nat.eq_or_lt_of_le hk
  · rw [Memory.read_write_same _ _ hs, Memory.read_write_same _ _ ht]
  · rw [Memory.read_write_other _ _ (Nat.ne_of_lt hlt), Memory.read_write_other _ _ (Nat.ne_of_lt hlt)]
    exact h.bufData hphase k hlt

theorem State.Agree.withPayload (h : s.Agree t) (hphase : s.dfPhase = .data) (hidx : s.dfIdx.toNat ≤ 39)
    (hs : s.buf.wf = true) (ht : t.buf.wf = true) (v : Byte) : (s.withPayload v).Agree (t.withPayload v) :=
  { h with
    dfSum := congrArg (· + v) h.dfSum
    dfPhase := by simp only [State.withPayload, h.dfIdx]
    dfIdx := by simp only [State.withPayload, h.dfIdx]
    dfInfo := fun hinfo => by
      simp only [State.withPayload] at hinfo
      split at hinfo <;> cases hinfo
    bufData := fun hdata k hk => by
      refine h.read_write hphase hs ht v ?_
      simp only [State.withPayload] at hk hdata
      split at hk
      · omega
      · bv_omega
    bufFull := fun hfull k hk => by
      refine h.read_write hphase hs ht v ?_
      simp only [State.withPayload, bufCells] at hfull hk
      split at hfull
      · omega
      · simp at hfull }

theorem State.Agree.dfPayload (h : s.Agree t) (hphase : s.dfPhase = .data) (hs : s.buf.wf = true)
    (ht : t.buf.wf = true) (v : Byte) : AgreeOut (s.dfPayload v) (t.dfPayload v) := by
  by_cases hidx : s.dfIdx.toNat ≤ 39
  · rw [State.dfPayload_eq v hphase hidx, State.dfPayload_eq v (h.dfPhase ▸ hphase) (h.dfIdx ▸ hidx)]
    exact (h.withPayload hphase hidx hs ht v).answer _ _ _
  · have hpast : ∀ u : State, u.dfIdx = s.dfIdx → u.dfPayload v = .fault .noSuchCell := fun u hu => by
      rw [State.dfPayload, hu, if_neg (by simp only [bufCells]; omega)]
    rw [hpast s rfl, hpast t h.dfIdx.symm]
    rfl

theorem State.Agree.dfChecksum (h : s.Agree t) (hphase : s.dfPhase = .chk) (v : Byte) :
    AgreeOut (s.dfChecksum v) (t.dfChecksum v) := by
  unfold State.dfChecksum
  by_cases hv : v = ~~~s.dfSum
  · rw [if_pos hv, if_pos (h.dfSum ▸ hv)]
    exact agreeOut_answer
      { h with dfPhase := rfl, dfInfo := by simp, bufData := by simp, bufFull := fun _ => h.bufFull (.inl hphase) }
  · rw [if_neg hv, if_neg (h.dfSum ▸ hv), State.dfFail_eq, State.dfFail_eq]
    exact h.afterFailure _

/-- Frame buffers that read the same give the same Reading (R64). -/
theorem Memory.reading_congr {m m' : Memory} (h : ∀ k, k < bufCells → m.read k = m'.read k) :
    m.reading = m'.reading := by
  apply Vector.ext
  intro i hi
  rw [m.reading_getElem hi, m'.reading_getElem hi]
  exact Memory.memRead_congr fun k hk => h _ (by simp only [bufCells]; omega)

/-- All forty cells are written when the frame ends (R143). -/
theorem State.Agree.dfEnd (h : s.Agree t) (hphase : s.dfPhase = .fin) (b : Byte) :
    AgreeOut (s.dfEnd b) (t.dfEnd b) := by
  unfold State.dfEnd
  split
  · have hrd := Memory.reading_congr (h.bufFull (.inr hphase))
    exact agreeOut_answer
      { h.leave (.inl rfl) with rd := fun _ => hrd, rdValid := rfl, dfResult := rfl }
  · rw [State.dfFail_eq, State.dfFail_eq]
    exact h.afterFailure _

theorem State.Agree.dfDrop (h : s.Agree t) : AgreeOut s.dfDrop t.dfDrop := by
  have hdrain : s.dfDrain - 1 = t.dfDrain - 1 := congrArg (· - 1) h.dfDrain
  have hword : s.dfResult.word = t.dfResult.word := congrArg DfResult.word h.dfResult
  unfold State.dfDrop
  dsimp only
  by_cases hlast : s.dfDrain - 1 = 0#6
  · rw [if_pos hlast, if_pos (hdrain ▸ hlast), hword]
    exact agreeOut_answer { h.leave (.inl rfl) with dfDrain := hdrain }
  · rw [if_neg hlast, if_neg (hdrain ▸ hlast)]
    exact agreeOut_answer { h with dfDrain := hdrain }

/-- Each phase's rule runs with the count raised (R135). -/
theorem State.Agree.exec_dfByte (h : s.Agree t) (hs : s.buf.wf = true) (ht : t.buf.wf = true) (b : Byte) :
    AgreeOut (exec (.dfByte b) s) (exec (.dfByte b) t) := by
  cases hphase : s.dfPhase with
  | idle =>
    have hfault : ∀ u : State, u.dfPhase = .idle → exec (.dfByte b) u = .next (u.raiseFault .dfSequence) :=
      fun u hu => by simp [exec, execDfByte, hu]
    rw [hfault s hphase, hfault t (h.dfPhase ▸ hphase)]
    exact h.raiseFault _
  | info =>
    rw [exec_dfByte_of_info hphase, exec_dfByte_of_info (h.dfPhase ▸ hphase)]
    exact h.counted.dfInfoByte hphase b
  | data =>
    rw [exec_dfByte_of_data hphase, exec_dfByte_of_data (h.dfPhase ▸ hphase)]
    exact h.counted.dfDestuff
      (fun v => h.counted.unescaped.dfPayload hphase hs ht v) b
  | chk =>
    rw [exec_dfByte_of_chk hphase, exec_dfByte_of_chk (h.dfPhase ▸ hphase)]
    exact h.counted.dfDestuff (fun v => h.counted.unescaped.dfChecksum hphase v) b
  | fin =>
    rw [exec_dfByte_of_fin hphase, exec_dfByte_of_fin (h.dfPhase ▸ hphase)]
    exact h.counted.dfEnd hphase b
  | drain =>
    rw [exec_dfByte_of_drain hphase, exec_dfByte_of_drain (h.dfPhase ▸ hphase)]
    exact h.counted.dfDrop

/-- A started attempt has written nothing (R134). -/
theorem State.Agree.cleared (h : s.Agree t) : s.cleared.Agree t.cleared :=
  { h with
    dfCnt := rfl, dfEsc := rfl, dfIdx := rfl, dfSum := rfl
    dfInfo := fun _ _ _ hk => absurd hk (Nat.not_lt_zero _)
    bufData := fun _ _ hk => absurd hk (Nat.not_lt_zero _) }

theorem State.Agree.exec_dfStart (h : s.Agree t) (avail : BitVec 16) (peek : Byte) :
    AgreeOut (exec (.dfStart avail peek) s) (exec (.dfStart avail peek) t) := by
  by_cases hidle : s.dfPhase = .idle
  · have hidle' : t.dfPhase = .idle := h.dfPhase ▸ hidle
    by_cases ha : avail = 0#16
    · rw [exec_dfStart_of_nothing hidle ha, exec_dfStart_of_nothing hidle' ha]
      exact agreeOut_answer { h.cleared with dfResult := rfl }
    by_cases hp : peek = 0x7E#8
    · by_cases hn : avail.toNat < 47
      · rw [exec_dfStart_of_tooFew hidle ha hp hn, exec_dfStart_of_tooFew hidle' ha hp hn]
        exact agreeOut_answer { h.cleared with dfResult := rfl }
      · rw [exec_dfStart_of_enough hidle hp (Nat.le_of_not_lt hn),
          exec_dfStart_of_enough hidle' hp (Nat.le_of_not_lt hn)]
        exact agreeOut_answer
          { h.cleared with
            dfResult := rfl, dfPhase := rfl
            dfInfo := fun _ _ _ hk => absurd hk (Nat.not_lt_zero _)
            bufData := by simp
            bufFull := by simp }
    · rw [exec_dfStart_of_badStart hidle ha hp, exec_dfStart_of_badStart hidle' ha hp]
      exact agreeOut_answer { h.cleared.leave (.inr rfl) with dfResult := rfl, dfDrain := rfl }
  · rw [exec_dfStart_of_running hidle, exec_dfStart_of_running (h.dfPhase ▸ hidle)]
    exact h.raiseFault _

theorem State.Agree.exec_dfEmpty (h : s.Agree t) : AgreeOut (exec .dfEmpty s) (exec .dfEmpty t) := by
  by_cases hidle : s.dfPhase = .idle
  · rw [exec_dfEmpty_of_idle hidle, exec_dfEmpty_of_idle (h.dfPhase ▸ hidle)]
    exact h.raiseFault _
  by_cases hdrain : s.dfPhase = .drain
  · have hword : s.dfResult.word = t.dfResult.word := congrArg DfResult.word h.dfResult
    rw [exec_dfEmpty_of_drain hdrain, exec_dfEmpty_of_drain (h.dfPhase ▸ hdrain), hword]
    exact agreeOut_answer { h.leave (.inl rfl) with dfDrain := rfl }
  · rw [exec_dfEmpty_of_underrun hidle hdrain,
      exec_dfEmpty_of_underrun (h.dfPhase ▸ hidle) (h.dfPhase ▸ hdrain)]
    exact agreeOut_answer { h.leave (.inl rfl) with dfResult := rfl, dfEsc := rfl }

/-- The Reading is answered only when it is valid (R150). -/
theorem State.Agree.exec_dfRead (h : s.Agree t) (k : BitVec 4) :
    AgreeOut (exec (.dfRead k) s) (exec (.dfRead k) t) := by
  simp only [exec, execDfRead, ← h.rdValid]
  split
  · split
    · next hvalid =>
      rw [h.rd hvalid]
      exact h.answer _ _ _
    · exact h.raiseFault _
  · exact h.raiseFault _

/-! ## The health tracker and the recovery sequencer -/

theorem State.Agree.ageCheck (h : s.Agree t) (hvalid : s.htValid = true) (now : Word) :
    AgreeOut (s.ageCheck now) (t.ageCheck now) := by
  unfold State.ageCheck
  rw [h.htResetThreshold, h.htLastGood hvalid]
  split
  · exact agreeOut_answer
      { h with rcState := rfl, rcT0 := fun _ => rfl, htLastGood := fun _ => rfl }
  · exact h.answer _ _ _

theorem State.Agree.countGood (h : s.Agree t) (now : Word) : (s.countGood now).Agree (t.countGood now) :=
  { h with
    htGoodCount := fun hvalid => congrArg satInc (h.htGoodCount hvalid)
    htBadStreak := fun _ => rfl
    htLastGood := fun _ => rfl
    htQualityFlag := fun _ => rfl }

theorem State.Agree.countBad (h : s.Agree t) : s.countBad.Agree t.countBad :=
  { h with
    htBadStreak := fun hvalid => congrArg satInc (h.htBadStreak hvalid)
    htQualityFlag := fun hvalid =>
      congrArg₂ (fun n flag => qualityAfterBad (satInc n) flag) (h.htBadStreak hvalid) (h.htQualityFlag hvalid) }

theorem State.Agree.exec_htInit (h : s.Agree t) (now : Word) :
    AgreeOut (exec (.htInit now) s) (exec (.htInit now) t) := by
  by_cases hidle : s.rcState = .idle
  · rw [exec_htInit_of_idle hidle, exec_htInit_of_idle (h.rcState ▸ hidle)]
    exact agreeOut_answer
      { h with
        htValid := rfl
        htGoodCount := fun _ => rfl
        htBadStreak := fun _ => rfl
        htLastGood := fun _ => rfl
        htQualityFlag := fun _ => rfl }
  · rw [exec_htInit_of_busy hidle, exec_htInit_of_busy (h.rcState ▸ hidle)]
    exact h.answer _ _ _

/-- The guards of a report read `HT.valid` and `RC.state`; past them the health registers hold a value (R178, R180). -/
theorem State.Agree.report {o o' counted counted' : Out} (h : s.Agree t)
    (hs : (s.htValid = false ∧ o = .next (s.raiseFault .htUninit)) ∨
      (s.htValid = true ∧ s.rcState ≠ .idle ∧ o = .next (s.answer .busy 0#32 [])) ∨
      (s.htValid = true ∧ s.rcState = .idle ∧ o = counted))
    (ht : (t.htValid = false ∧ o' = .next (t.raiseFault .htUninit)) ∨
      (t.htValid = true ∧ t.rcState ≠ .idle ∧ o' = .next (t.answer .busy 0#32 [])) ∨
      (t.htValid = true ∧ t.rcState = .idle ∧ o' = counted'))
    (hcounted : s.htValid = true → AgreeOut counted counted') : AgreeOut o o' := by
  obtain ⟨huninit, hbusy, hcount⟩ := report_of_guards ht
  rw [← h.htValid] at huninit hbusy hcount
  rw [← h.rcState] at hbusy hcount
  obtain ⟨hv, rfl⟩ | ⟨hv, hrc, rfl⟩ | ⟨hv, hrc, rfl⟩ := hs
  · rw [huninit hv]
    exact h.raiseFault _
  · rw [hbusy hv hrc]
    exact h.answer _ _ _
  · rw [hcount hv hrc]
    exact hcounted hv

theorem State.Agree.exec_htGood (h : s.Agree t) (now : Word) :
    AgreeOut (exec (.htGood now) s) (exec (.htGood now) t) :=
  h.report (execHtGood_cases now s) (execHtGood_cases now t) fun hvalid => (h.countGood now).ageCheck hvalid now

theorem State.Agree.exec_htBad (h : s.Agree t) (now : Word) :
    AgreeOut (exec (.htBad now) s) (exec (.htBad now) t) :=
  h.report (execHtBad_cases now s) (execHtBad_cases now t) fun hvalid => h.countBad.ageCheck hvalid now

theorem State.Agree.exec_htQgood (h : s.Agree t) : AgreeOut (exec .htQgood s) (exec .htQgood t) := by
  cases hvalid : s.htValid with
  | true =>
    rw [exec_htQgood_of_valid hvalid, exec_htQgood_of_valid (h.htValid ▸ hvalid), h.htGoodCount hvalid]
    exact h.answer _ _ _
  | false =>
    rw [exec_htQgood_of_uninit hvalid, exec_htQgood_of_uninit (h.htValid ▸ hvalid)]
    exact h.raiseFault _

theorem State.Agree.exec_htQflag (h : s.Agree t) : AgreeOut (exec .htQflag s) (exec .htQflag t) := by
  cases hvalid : s.htValid with
  | true =>
    rw [exec_htQflag_of_valid hvalid, exec_htQflag_of_valid (h.htValid ▸ hvalid), h.htQualityFlag hvalid]
    exact h.answer _ _ _
  | false =>
    rw [exec_htQflag_of_uninit hvalid, exec_htQflag_of_uninit (h.htValid ▸ hvalid)]
    exact h.raiseFault _

theorem State.Agree.enterWait (h : s.Agree t) (w : RcState) (now : Word) :
    (s.enterWait w now).Agree (t.enterWait w now) :=
  { h with rcState := rfl, rcT0 := fun _ => rfl }

theorem State.Agree.completeRecovery (h : s.Agree t) (now : Word) :
    (s.completeRecovery now).Agree (t.completeRecovery now) :=
  { h with rcState := rfl, htLastGood := fun _ => rfl, rcT0 := fun hbusy => absurd rfl hbusy }

/-- A tick reads `RC.t0` only while a recovery runs (R193). -/
theorem State.Agree.rcTick (h : s.Agree t) (p : Config.Params) (now : Word) :
    AgreeOut (s.rcTick p now) (t.rcTick p now) := by
  cases hrc : s.rcState with
  | idle =>
    rw [State.rcTick_of_idle hrc, State.rcTick_of_idle (h.rcState ▸ hrc)]
    exact h.answer _ _ _
  | offWait =>
    rw [State.rcTick_of_offWait hrc, State.rcTick_of_offWait (h.rcState ▸ hrc), h.rcT0 (by simp [hrc])]
    split
    · exact (h.enterWait _ now).answer _ _ _
    · exact h.answer _ _ _
  | onWait =>
    rw [State.rcTick_of_onWait hrc, State.rcTick_of_onWait (h.rcState ▸ hrc), h.rcT0 (by simp [hrc])]
    split
    · split
      · exact (h.enterWait _ now).answer _ _ _
      · exact (h.completeRecovery now).answer _ _ _
    · exact h.answer _ _ _
  | cleanWait =>
    rw [State.rcTick_of_cleanWait hrc, State.rcTick_of_cleanWait (h.rcState ▸ hrc), h.rcT0 (by simp [hrc])]
    split
    · exact (h.completeRecovery now).answer _ _ _
    · exact h.answer _ _ _

/-! ## Every command, every step, every run -/

theorem State.Agree.exec (h : s.Agree t) (hs : s.buf.wf = true) (ht : t.buf.wf = true) (i : Instr) :
    AgreeOut (exec i s) (exec i t) := by
  cases i with
  | dfStart avail peek => exact h.exec_dfStart avail peek
  | dfByte b => exact h.exec_dfByte hs ht b
  | dfEmpty => exact h.exec_dfEmpty
  | dfRead k => exact h.exec_dfRead k
  | htInit now => exact h.exec_htInit now
  | htGood now => exact h.exec_htGood now
  | htBad now => exact h.exec_htBad now
  | htQgood => exact h.exec_htQgood
  | htQflag => exact h.exec_htQflag
  | rcTick now => exact h.rcTick Config.params now
  | htSetthr thr =>
    rw [exec_htSetthr, exec_htSetthr]
    exact agreeOut_answer { h with htResetThreshold := rfl }
  | sysStatus =>
    rw [exec_sysStatus, exec_sysStatus, h.statusWord]
    exact h.answer _ _ _
  | s8Init =>
    rw [exec_s8Init, exec_s8Init]
    exact agreeOut_answer { h with s8Acc := rfl }
  | s8Byte b =>
    rw [exec_s8Byte, exec_s8Byte]
    exact agreeOut_answer { h with s8Acc := congrArg (· + b) h.s8Acc }
  | s8Read =>
    rw [exec_s8Read, exec_s8Read, h.s8Acc]
    exact h.answer _ _ _
  | s8Check c =>
    rw [exec_s8Check, exec_s8Check, h.s8Acc]
    exact h.answer _ _ _
  | c16Init =>
    rw [exec_c16Init, exec_c16Init]
    exact agreeOut_answer { h with c16Acc := rfl }
  | c16Byte b =>
    rw [exec_c16Byte, exec_c16Byte]
    exact agreeOut_answer { h with c16Acc := congrArg (crc16Step · b) h.c16Acc }
  | c16Read =>
    rw [exec_c16Read, exec_c16Read, h.c16Acc]
    exact h.answer _ _ _
  | c8Init =>
    rw [exec_c8Init, exec_c8Init]
    exact agreeOut_answer { h with c8Acc := rfl }
  | c8Byte b =>
    rw [exec_c8Byte, exec_c8Byte]
    exact agreeOut_answer { h with c8Acc := congrArg (crc8Step · b) h.c8Acc }
  | c8Read =>
    rw [exec_c8Read, exec_c8Read, h.c8Acc]
    exact h.answer _ _ _
  | c8Check c =>
    rw [exec_c8Check, exec_c8Check, h.c8Acc]
    exact h.answer _ _ _

/-- A step takes the same word from both ports. -/
theorem State.Agree.step (h : s.Agree t) (hs : s.buf.wf = true) (ht : t.buf.wf = true) :
    AgreeOut (step s) (step t) := by
  cases hport : s.cmdIn with
  | nil =>
    have hstop : ∀ u : State, u.cmdIn = [] → Machine.step u = .fault .noCommand := fun u hu => by
      simp [Machine.step, State.takeCommand, hu]
    rw [hstop s hport, hstop t (h.cmdIn ▸ hport)]
    rfl
  | cons w rest =>
    have hport' : t.cmdIn = w :: rest := h.cmdIn ▸ hport
    cases hw : decode w with
    | ok i =>
      rw [step_of_decode_eq_ok hport hw, step_of_decode_eq_ok hport' hw]
      exact (h.takePort rest).exec hs ht i
    | error c =>
      rw [step_of_decode_eq_error hport hw, step_of_decode_eq_error hport' hw]
      exact (h.takePort rest).raiseFault c

/-- A run goes on after a step that does, and ends with one that stops. -/
theorem run_succ_of_next {u : State} (k : Nat) (h : step s = .next u) : core.run (k + 1) s = core.run k u := by
  have hstep : core.step s = .next u := h
  simp only [Host.Core.run, hstep]

theorem run_succ_of_fault {r : Fault} (k : Nat) (h : step s = .fault r) : core.run (k + 1) s = .fault r := by
  have hstep : core.step s = .fault r := h
  simp only [Host.Core.run, hstep]

theorem run_succ_of_refused {r : Refusal} (k : Nat) (h : step s = .refused r) : core.run (k + 1) s = .refused r := by
  have hstep : core.step s = .refused r := h
  simp only [Host.Core.run, hstep]

end

/-- Settles O55: agreement and canonical buffers, step by step. -/
theorem unspecifiedRegistersAreNeverObserved : Obligations.UnspecifiedRegistersAreNeverObserved := by
  unfold Obligations.UnspecifiedRegistersAreNeverObserved
  intro k
  induction k with
  | zero => exact fun s t _ _ h => h
  | succ k ih =>
    intro s t hs ht h
    have hstep := h.step hs ht
    cases hs' : step s <;> cases ht' : step t <;> rw [hs', ht'] at hstep
    case next.next u v =>
      rw [run_succ_of_next k hs', run_succ_of_next k ht']
      exact ih u v (step_buf_wf hs hs') (step_buf_wf ht ht') hstep
    case fault.fault =>
      rw [run_succ_of_fault k hs', run_succ_of_fault k ht']
      exact hstep
    case refused.refused =>
      rw [run_succ_of_refused k hs', run_succ_of_refused k ht']
      exact hstep
    all_goals exact hstep.elim

end Sys2Proof.Machine
